-- ==== Sys2Proof/Word.lean ====
section
/-! DEFINITION. The word types of the codec core (00_scope.md R6, R9): bytes, 6-bit symbol indices and the
24-bit group word. Nothing is signed; lengths and counters are natural numbers (R7, R24). -/

namespace Sys2Proof

/-- One byte: a buffer entry, a character, a table entry (R6, R11). -/
abbrev Byte := BitVec 8

/-- A 6-bit symbol index, the value a `VAL` character stands for (R6, R14). -/
abbrev Idx := BitVec 6

/-- The encoder's group word `G` and the decoder's word `W`, first byte or value most significant (R51). -/
abbrev Group := BitVec 24

end Sys2Proof
end

