-- ==== Sys2Proof/Config.lean ====
section
/-! DEFINITION. What an implementation fixes and what the spec leaves open: the constants of R6, the bounds that
a finite `LEN_W` puts on lengths (R7), and the free values (unspecified bytes, the order of the units). -/

namespace Sys2Proof

/-- The two units (00_scope.md R1, R8, R14). -/
inductive UnitId where
  /-- `ENC`, the encoder. -/
  | enc
  /-- `DEC`, the decoder. -/
  | dec
  deriving DecidableEq, Repr

/-- The four buffer spaces (10_state.md R33); the two tables are constants and have no space of their own here. -/
inductive Space where
  /-- `ENC.IN` -/
  | encIn
  /-- `ENC.OUT` -/
  | encOut
  /-- `DEC.IN` -/
  | decIn
  /-- `DEC.OUT` -/
  | decOut
  deriving DecidableEq, Repr

namespace Config

/-- The padding character `=` (R6); its ASCII code is log 12. -/
def padChar : Byte := 0x3D

/-- The decode-table sentinel for padding (R6, R78). -/
def padEntry : Byte := 254

/-- The decode-table sentinel for an invalid character (R6, R78). -/
def invEntry : Byte := 255

/-- The number of values that `LEN_W` bits hold; `none` is the unbounded architectural model (R7, log 1). -/
def fitsLen (lenW : Option Nat) (n : Nat) : Bool :=
  match lenW with
  | none => true
  | some w => n < 2 ^ w

/-- `ENC_MAX_N`: the longest input the encoder accepts under a finite `LEN_W` (R7). -/
def encMaxN (w : Nat) : Nat := 3 * ((2 ^ w - 1) / 4)

/-- `DEC_MAX_L`: the longest input the decoder accepts under a finite `LEN_W` (R7). -/
def decMaxL (w : Nat) : Nat := 2 ^ w - 1

/-- A START of unit `u` with length `n` is within the bound of R7. -/
def lenInBound (lenW : Option Nat) (u : UnitId) (n : Nat) : Bool :=
  match lenW, u with
  | none, _ => true
  | some w, .enc => n ≤ encMaxN w
  | some w, .dec => n ≤ decMaxL w

/-- FREE VALUE (log 3, log 4). The byte that entry `k` of space `sp` holds where nothing has written it since its
content became unspecified for the `era`-th time (R37, R221, R232; 93_implementation_defined.md U3, U6, U10). -/
opaque unwrittenByte : (sp : Space) → (era : Nat) → (k : Nat) → Byte

/-- FREE VALUE (log 3, log 4, log 18). The byte at address `a` of the system's memory where nothing has written it since its
content became unspecified for the `era`-th time (R37, R221; U3, U6, U10). -/
opaque unwrittenSysByte : (era : Nat) → (a : Nat) → Byte

/-- FREE VALUE (log 7). The byte the `n`-th early read of an output buffer returns (R61, R229; U8). -/
opaque earlyByte : (n : Nat) → Byte

/-- FREE VALUE (log 6). Which unit takes the `n`-th step when both are busy and no input says so (R62, R204):
`true` is the encoder. -/
opaque encoderFirst : (n : Nat) → Bool

end Config

end Sys2Proof
end

