-- ==== Sys2Proof/Syntax.lean ====
section
/-! DEFINITION. The syntax: one constructor per row of spec/opcode_table.json (30_encoding.md R83, R91). The first
21 are the operations, then the 64 rows of `ENC_LUT` (R76), named by the index in decimal, and the 256 rows of
`DEC_LUT` (R80), named by the byte in hexadecimal. -/

namespace Sys2Proof

/-- Every row of the operation table. -/
inductive Instr where
  /-- `ENC.START len` (R101). -/
  | encStart (len : Nat)
  /-- `DEC.START len` (R102). -/
  | decStart (len : Nat)
  /-- `ENCODE`: an accepted `ENC.START` and every step up to done (R104). -/
  | encodeOp (len : Nat)
  /-- `DECODE`: an accepted `DEC.START` and every step up to done (R106). -/
  | decodeOp (len : Nat)
  /-- `ENC.SYM0` (R122). -/
  | encSym0
  /-- `ENC.SYM1` (R123). -/
  | encSym1
  /-- `ENC.SYM2` (R124). -/
  | encSym2
  /-- `ENC.SYM3` (R125). -/
  | encSym3
  /-- `ENC.PAD2` (R126). -/
  | encPad2
  /-- `ENC.PAD3` (R127). -/
  | encPad3
  /-- `ENC.FINISH` (R128). -/
  | encFinish
  /-- `DEC.CHECK` (R141). -/
  | decCheck
  /-- `DEC.SCAN.VAL` (R144). -/
  | decScanVal
  /-- `DEC.SCAN.PAD` (R145). -/
  | decScanPad
  /-- `DEC.SCAN.INV` (R143). -/
  | decScanInv
  /-- `DEC.SCAN.END` (R146). -/
  | decScanEnd
  /-- `DEC.REPACK.G3` (R172). -/
  | decRepackG3
  /-- `DEC.REPACK.G2` (R173). -/
  | decRepackG2
  /-- `DEC.REPACK.G1` (R174). -/
  | decRepackG1
  /-- `DEC.FINISH` (R175). -/
  | decFinish
  /-- `RESET` (R220). -/
  | reset
  | encLut0 | encLut1 | encLut2 | encLut3 | encLut4 | encLut5 | encLut6 | encLut7
  | encLut8 | encLut9 | encLut10 | encLut11 | encLut12 | encLut13 | encLut14 | encLut15
  | encLut16 | encLut17 | encLut18 | encLut19 | encLut20 | encLut21 | encLut22 | encLut23
  | encLut24 | encLut25 | encLut26 | encLut27 | encLut28 | encLut29 | encLut30 | encLut31
  | encLut32 | encLut33 | encLut34 | encLut35 | encLut36 | encLut37 | encLut38 | encLut39
  | encLut40 | encLut41 | encLut42 | encLut43 | encLut44 | encLut45 | encLut46 | encLut47
  | encLut48 | encLut49 | encLut50 | encLut51 | encLut52 | encLut53 | encLut54 | encLut55
  | encLut56 | encLut57 | encLut58 | encLut59 | encLut60 | encLut61 | encLut62 | encLut63
  | decLut00 | decLut01 | decLut02 | decLut03 | decLut04 | decLut05 | decLut06 | decLut07
  | decLut08 | decLut09 | decLut0A | decLut0B | decLut0C | decLut0D | decLut0E | decLut0F
  | decLut10 | decLut11 | decLut12 | decLut13 | decLut14 | decLut15 | decLut16 | decLut17
  | decLut18 | decLut19 | decLut1A | decLut1B | decLut1C | decLut1D | decLut1E | decLut1F
  | decLut20 | decLut21 | decLut22 | decLut23 | decLut24 | decLut25 | decLut26 | decLut27
  | decLut28 | decLut29 | decLut2A | decLut2B | decLut2C | decLut2D | decLut2E | decLut2F
  | decLut30 | decLut31 | decLut32 | decLut33 | decLut34 | decLut35 | decLut36 | decLut37
  | decLut38 | decLut39 | decLut3A | decLut3B | decLut3C | decLut3D | decLut3E | decLut3F
  | decLut40 | decLut41 | decLut42 | decLut43 | decLut44 | decLut45 | decLut46 | decLut47
  | decLut48 | decLut49 | decLut4A | decLut4B | decLut4C | decLut4D | decLut4E | decLut4F
  | decLut50 | decLut51 | decLut52 | decLut53 | decLut54 | decLut55 | decLut56 | decLut57
  | decLut58 | decLut59 | decLut5A | decLut5B | decLut5C | decLut5D | decLut5E | decLut5F
  | decLut60 | decLut61 | decLut62 | decLut63 | decLut64 | decLut65 | decLut66 | decLut67
  | decLut68 | decLut69 | decLut6A | decLut6B | decLut6C | decLut6D | decLut6E | decLut6F
  | decLut70 | decLut71 | decLut72 | decLut73 | decLut74 | decLut75 | decLut76 | decLut77
  | decLut78 | decLut79 | decLut7A | decLut7B | decLut7C | decLut7D | decLut7E | decLut7F
  | decLut80 | decLut81 | decLut82 | decLut83 | decLut84 | decLut85 | decLut86 | decLut87
  | decLut88 | decLut89 | decLut8A | decLut8B | decLut8C | decLut8D | decLut8E | decLut8F
  | decLut90 | decLut91 | decLut92 | decLut93 | decLut94 | decLut95 | decLut96 | decLut97
  | decLut98 | decLut99 | decLut9A | decLut9B | decLut9C | decLut9D | decLut9E | decLut9F
  | decLutA0 | decLutA1 | decLutA2 | decLutA3 | decLutA4 | decLutA5 | decLutA6 | decLutA7
  | decLutA8 | decLutA9 | decLutAA | decLutAB | decLutAC | decLutAD | decLutAE | decLutAF
  | decLutB0 | decLutB1 | decLutB2 | decLutB3 | decLutB4 | decLutB5 | decLutB6 | decLutB7
  | decLutB8 | decLutB9 | decLutBA | decLutBB | decLutBC | decLutBD | decLutBE | decLutBF
  | decLutC0 | decLutC1 | decLutC2 | decLutC3 | decLutC4 | decLutC5 | decLutC6 | decLutC7
  | decLutC8 | decLutC9 | decLutCA | decLutCB | decLutCC | decLutCD | decLutCE | decLutCF
  | decLutD0 | decLutD1 | decLutD2 | decLutD3 | decLutD4 | decLutD5 | decLutD6 | decLutD7
  | decLutD8 | decLutD9 | decLutDA | decLutDB | decLutDC | decLutDD | decLutDE | decLutDF
  | decLutE0 | decLutE1 | decLutE2 | decLutE3 | decLutE4 | decLutE5 | decLutE6 | decLutE7
  | decLutE8 | decLutE9 | decLutEA | decLutEB | decLutEC | decLutED | decLutEE | decLutEF
  | decLutF0 | decLutF1 | decLutF2 | decLutF3 | decLutF4 | decLutF5 | decLutF6 | decLutF7
  | decLutF8 | decLutF9 | decLutFA | decLutFB | decLutFC | decLutFD | decLutFE | decLutFF
  deriving DecidableEq, Repr

/-- The encoder's micro-operations (R83), the answers of the encoder's select vector (R84). -/
inductive EncOp where
  | sym0 | sym1 | sym2 | sym3 | pad2 | pad3 | finish
  deriving DecidableEq, Repr

/-- The decoder's micro-operations of state `SCAN` (R83, R85). -/
inductive ScanOp where
  | val | pad | inv | fin
  deriving DecidableEq, Repr

/-- The decoder's micro-operations of state `REPACK` (R83, R85). -/
inductive RepackOp where
  | g3 | g2 | g1 | fin
  deriving DecidableEq, Repr

/-- The table row of an encoder micro-operation. -/
def EncOp.instr : EncOp → Instr
  | .sym0 => .encSym0
  | .sym1 => .encSym1
  | .sym2 => .encSym2
  | .sym3 => .encSym3
  | .pad2 => .encPad2
  | .pad3 => .encPad3
  | .finish => .encFinish

/-- The table row of a scan micro-operation. -/
def ScanOp.instr : ScanOp → Instr
  | .val => .decScanVal
  | .pad => .decScanPad
  | .inv => .decScanInv
  | .fin => .decScanEnd

/-- The table row of a repack micro-operation. -/
def RepackOp.instr : RepackOp → Instr
  | .g3 => .decRepackG3
  | .g2 => .decRepackG2
  | .g1 => .decRepackG1
  | .fin => .decFinish

end Sys2Proof
end

