-- ==== Sys2Proof/WellFormed.lean ====
section
/-! DEFINITION. Which terms of Instr are well formed: the only operand of the table is `len` of a CMD word, whose
field is `LEN_W` bits wide (30_encoding.md R71, R74). -/

namespace Sys2Proof

/-- The operand fits its field: `len` is below `2^LEN_W`; every value is representable when `LEN_W` is unbounded
(log 1). A length that fits the field but exceeds the bound of R7 is well formed; START answers for it. -/
def Instr.WellFormed (lenW : Option Nat) (i : Instr) : Bool :=
  match i with
  | .encStart len => Config.fitsLen lenW len
  | .decStart len => Config.fitsLen lenW len
  | .encodeOp len => Config.fitsLen lenW len
  | .decodeOp len => Config.fitsLen lenW len
  | .encSym0 | .encSym1 | .encSym2 | .encSym3 | .encPad2 | .encPad3 | .encFinish | .decCheck
  | .decScanVal | .decScanPad | .decScanInv | .decScanEnd | .decRepackG3 | .decRepackG2 | .decRepackG1 | .decFinish
  | .reset | .encLut0 | .encLut1 | .encLut2 | .encLut3 | .encLut4 | .encLut5 | .encLut6
  | .encLut7 | .encLut8 | .encLut9 | .encLut10 | .encLut11 | .encLut12 | .encLut13 | .encLut14
  | .encLut15 | .encLut16 | .encLut17 | .encLut18 | .encLut19 | .encLut20 | .encLut21 | .encLut22
  | .encLut23 | .encLut24 | .encLut25 | .encLut26 | .encLut27 | .encLut28 | .encLut29 | .encLut30
  | .encLut31 | .encLut32 | .encLut33 | .encLut34 | .encLut35 | .encLut36 | .encLut37 | .encLut38
  | .encLut39 | .encLut40 | .encLut41 | .encLut42 | .encLut43 | .encLut44 | .encLut45 | .encLut46
  | .encLut47 | .encLut48 | .encLut49 | .encLut50 | .encLut51 | .encLut52 | .encLut53 | .encLut54
  | .encLut55 | .encLut56 | .encLut57 | .encLut58 | .encLut59 | .encLut60 | .encLut61 | .encLut62
  | .encLut63 | .decLut00 | .decLut01 | .decLut02 | .decLut03 | .decLut04 | .decLut05 | .decLut06
  | .decLut07 | .decLut08 | .decLut09 | .decLut0A | .decLut0B | .decLut0C | .decLut0D | .decLut0E
  | .decLut0F | .decLut10 | .decLut11 | .decLut12 | .decLut13 | .decLut14 | .decLut15 | .decLut16
  | .decLut17 | .decLut18 | .decLut19 | .decLut1A | .decLut1B | .decLut1C | .decLut1D | .decLut1E
  | .decLut1F | .decLut20 | .decLut21 | .decLut22 | .decLut23 | .decLut24 | .decLut25 | .decLut26
  | .decLut27 | .decLut28 | .decLut29 | .decLut2A | .decLut2B | .decLut2C | .decLut2D | .decLut2E
  | .decLut2F | .decLut30 | .decLut31 | .decLut32 | .decLut33 | .decLut34 | .decLut35 | .decLut36
  | .decLut37 | .decLut38 | .decLut39 | .decLut3A | .decLut3B | .decLut3C | .decLut3D | .decLut3E
  | .decLut3F | .decLut40 | .decLut41 | .decLut42 | .decLut43 | .decLut44 | .decLut45 | .decLut46
  | .decLut47 | .decLut48 | .decLut49 | .decLut4A | .decLut4B | .decLut4C | .decLut4D | .decLut4E
  | .decLut4F | .decLut50 | .decLut51 | .decLut52 | .decLut53 | .decLut54 | .decLut55 | .decLut56
  | .decLut57 | .decLut58 | .decLut59 | .decLut5A | .decLut5B | .decLut5C | .decLut5D | .decLut5E
  | .decLut5F | .decLut60 | .decLut61 | .decLut62 | .decLut63 | .decLut64 | .decLut65 | .decLut66
  | .decLut67 | .decLut68 | .decLut69 | .decLut6A | .decLut6B | .decLut6C | .decLut6D | .decLut6E
  | .decLut6F | .decLut70 | .decLut71 | .decLut72 | .decLut73 | .decLut74 | .decLut75 | .decLut76
  | .decLut77 | .decLut78 | .decLut79 | .decLut7A | .decLut7B | .decLut7C | .decLut7D | .decLut7E
  | .decLut7F | .decLut80 | .decLut81 | .decLut82 | .decLut83 | .decLut84 | .decLut85 | .decLut86
  | .decLut87 | .decLut88 | .decLut89 | .decLut8A | .decLut8B | .decLut8C | .decLut8D | .decLut8E
  | .decLut8F | .decLut90 | .decLut91 | .decLut92 | .decLut93 | .decLut94 | .decLut95 | .decLut96
  | .decLut97 | .decLut98 | .decLut99 | .decLut9A | .decLut9B | .decLut9C | .decLut9D | .decLut9E
  | .decLut9F | .decLutA0 | .decLutA1 | .decLutA2 | .decLutA3 | .decLutA4 | .decLutA5 | .decLutA6
  | .decLutA7 | .decLutA8 | .decLutA9 | .decLutAA | .decLutAB | .decLutAC | .decLutAD | .decLutAE
  | .decLutAF | .decLutB0 | .decLutB1 | .decLutB2 | .decLutB3 | .decLutB4 | .decLutB5 | .decLutB6
  | .decLutB7 | .decLutB8 | .decLutB9 | .decLutBA | .decLutBB | .decLutBC | .decLutBD | .decLutBE
  | .decLutBF | .decLutC0 | .decLutC1 | .decLutC2 | .decLutC3 | .decLutC4 | .decLutC5 | .decLutC6
  | .decLutC7 | .decLutC8 | .decLutC9 | .decLutCA | .decLutCB | .decLutCC | .decLutCD | .decLutCE
  | .decLutCF | .decLutD0 | .decLutD1 | .decLutD2 | .decLutD3 | .decLutD4 | .decLutD5 | .decLutD6
  | .decLutD7 | .decLutD8 | .decLutD9 | .decLutDA | .decLutDB | .decLutDC | .decLutDD | .decLutDE
  | .decLutDF | .decLutE0 | .decLutE1 | .decLutE2 | .decLutE3 | .decLutE4 | .decLutE5 | .decLutE6
  | .decLutE7 | .decLutE8 | .decLutE9 | .decLutEA | .decLutEB | .decLutEC | .decLutED | .decLutEE
  | .decLutEF | .decLutF0 | .decLutF1 | .decLutF2 | .decLutF3 | .decLutF4 | .decLutF5 | .decLutF6
  | .decLutF7 | .decLutF8 | .decLutF9 | .decLutFA | .decLutFB | .decLutFC | .decLutFD | .decLutFE
  | .decLutFF => true

end Sys2Proof
end

