-- ==== Sys2Proof/Decode.lean ====
section
/-! DEFINITION. Decoding and encoding. The hardware fetches no instruction words (10_state.md R24): what selects an
operation is a word presented at one of its inputs, a CMD word, the `rst` input, a select vector or a table index
(30_encoding.md R70, R71, R84, R85, R91). A word of the same bits means different things at different inputs, so a
presented word carries the input it stands at. The decoder is total and rejects by name; the encoder follows it. -/

namespace Sys2Proof

/-- A word together with the input it is presented at. -/
inductive PortWord where
  /-- A CMD word at `U.CTRL` (R71). -/
  | ctrl (u : UnitId) (w : Nat)
  /-- A CMD word that asks unit `u` for the whole operation (R91, R104, R106; log 10). -/
  | call (u : UnitId) (w : Nat)
  /-- The `rst` input (R220). -/
  | rst (b : BitVec 1)
  /-- The encoder's select vector `fin, sel[1], sel[0], v` in `RUN` (R84). -/
  | encSel (v : BitVec 4)
  /-- State `CHECK`, which selects by itself (R85). -/
  | decCheck
  /-- The decoder's select vector `end, k[1], k[0]` in `SCAN` (R85). -/
  | scanSel (v : BitVec 3)
  /-- The decoder's select vector `fin, p2, p3` in `REPACK` (R85). -/
  | repackSel (v : BitVec 3)
  /-- The 6-bit index of `ENC_LUT` (R76). -/
  | encIndex (i : BitVec 6)
  /-- The 8-bit index of `DEC_LUT` (R80). -/
  | decIndex (c : BitVec 8)
  deriving DecidableEq, Repr

/-- Why a presented word stands for no operation. -/
inductive Reject where
  /-- A CMD word wider than `1 + LEN_W` bits (R71). -/
  | commandTooWide
  /-- A CMD word with `start` = 0, which does nothing (R28). -/
  | startBitZero
  /-- `rst` at 0. -/
  | rstLow
  /-- A select pattern that cannot occur (R84, R85, R177). -/
  | noSuchPattern
  deriving DecidableEq, Repr

/-- One row of a select table: the bits examined, their pattern, and what they select (R91). -/
structure SelectRow (n : Nat) (α : Type) where
  mask : BitVec n
  pattern : BitVec n
  op : α
  deriving DecidableEq, Repr

/-- The vector `v` shows the row's pattern on the bits the row examines. -/
def SelectRow.hits {n : Nat} {α : Type} (r : SelectRow n α) (v : BitVec n) : Bool :=
  v &&& r.mask == r.pattern

/-- The table of R84. -/
def encSelectTable : List (SelectRow 4 EncOp) :=
  [⟨0b1111, 0b0001, .sym0⟩, ⟨0b1111, 0b0011, .sym1⟩, ⟨0b1111, 0b0101, .sym2⟩, ⟨0b1111, 0b0100, .pad2⟩,
   ⟨0b1111, 0b0111, .sym3⟩, ⟨0b1111, 0b0110, .pad3⟩, ⟨0b1000, 0b1000, .finish⟩]

/-- The `SCAN` rows of R85. -/
def scanSelectTable : List (SelectRow 3 ScanOp) :=
  [⟨0b111, 0b000, .val⟩, ⟨0b111, 0b001, .pad⟩, ⟨0b111, 0b010, .inv⟩, ⟨0b100, 0b100, .fin⟩]

/-- The `REPACK` rows of R85. -/
def repackSelectTable : List (SelectRow 3 RepackOp) :=
  [⟨0b111, 0b000, .g3⟩, ⟨0b111, 0b001, .g2⟩, ⟨0b111, 0b011, .g1⟩, ⟨0b100, 0b100, .fin⟩]

/-- What a select vector selects in a table: the first row it hits; `none` for a pattern no row has. -/
def selectOf {n : Nat} {α : Type} (table : List (SelectRow n α)) (v : BitVec n) : Option α :=
  (table.find? (·.hits v)).map (·.op)

/-- The rows of `ENC_LUT` in index order (R76). -/
def encLutRows : List Instr :=
  [.encLut0, .encLut1, .encLut2, .encLut3, .encLut4, .encLut5, .encLut6, .encLut7,
   .encLut8, .encLut9, .encLut10, .encLut11, .encLut12, .encLut13, .encLut14, .encLut15,
   .encLut16, .encLut17, .encLut18, .encLut19, .encLut20, .encLut21, .encLut22, .encLut23,
   .encLut24, .encLut25, .encLut26, .encLut27, .encLut28, .encLut29, .encLut30, .encLut31,
   .encLut32, .encLut33, .encLut34, .encLut35, .encLut36, .encLut37, .encLut38, .encLut39,
   .encLut40, .encLut41, .encLut42, .encLut43, .encLut44, .encLut45, .encLut46, .encLut47,
   .encLut48, .encLut49, .encLut50, .encLut51, .encLut52, .encLut53, .encLut54, .encLut55,
   .encLut56, .encLut57, .encLut58, .encLut59, .encLut60, .encLut61, .encLut62, .encLut63]

/-- The rows of `DEC_LUT` in byte order (R80), piece 0. -/
def decLutRows0 : List Instr :=
  [.decLut00, .decLut01, .decLut02, .decLut03, .decLut04, .decLut05, .decLut06, .decLut07,
   .decLut08, .decLut09, .decLut0A, .decLut0B, .decLut0C, .decLut0D, .decLut0E, .decLut0F,
   .decLut10, .decLut11, .decLut12, .decLut13, .decLut14, .decLut15, .decLut16, .decLut17,
   .decLut18, .decLut19, .decLut1A, .decLut1B, .decLut1C, .decLut1D, .decLut1E, .decLut1F,
   .decLut20, .decLut21, .decLut22, .decLut23, .decLut24, .decLut25, .decLut26, .decLut27,
   .decLut28, .decLut29, .decLut2A, .decLut2B, .decLut2C, .decLut2D, .decLut2E, .decLut2F,
   .decLut30, .decLut31, .decLut32, .decLut33, .decLut34, .decLut35, .decLut36, .decLut37,
   .decLut38, .decLut39, .decLut3A, .decLut3B, .decLut3C, .decLut3D, .decLut3E, .decLut3F]

/-- The rows of `DEC_LUT` in byte order (R80), piece 1. -/
def decLutRows1 : List Instr :=
  [.decLut40, .decLut41, .decLut42, .decLut43, .decLut44, .decLut45, .decLut46, .decLut47,
   .decLut48, .decLut49, .decLut4A, .decLut4B, .decLut4C, .decLut4D, .decLut4E, .decLut4F,
   .decLut50, .decLut51, .decLut52, .decLut53, .decLut54, .decLut55, .decLut56, .decLut57,
   .decLut58, .decLut59, .decLut5A, .decLut5B, .decLut5C, .decLut5D, .decLut5E, .decLut5F,
   .decLut60, .decLut61, .decLut62, .decLut63, .decLut64, .decLut65, .decLut66, .decLut67,
   .decLut68, .decLut69, .decLut6A, .decLut6B, .decLut6C, .decLut6D, .decLut6E, .decLut6F,
   .decLut70, .decLut71, .decLut72, .decLut73, .decLut74, .decLut75, .decLut76, .decLut77,
   .decLut78, .decLut79, .decLut7A, .decLut7B, .decLut7C, .decLut7D, .decLut7E, .decLut7F]

/-- The rows of `DEC_LUT` in byte order (R80), piece 2. -/
def decLutRows2 : List Instr :=
  [.decLut80, .decLut81, .decLut82, .decLut83, .decLut84, .decLut85, .decLut86, .decLut87,
   .decLut88, .decLut89, .decLut8A, .decLut8B, .decLut8C, .decLut8D, .decLut8E, .decLut8F,
   .decLut90, .decLut91, .decLut92, .decLut93, .decLut94, .decLut95, .decLut96, .decLut97,
   .decLut98, .decLut99, .decLut9A, .decLut9B, .decLut9C, .decLut9D, .decLut9E, .decLut9F,
   .decLutA0, .decLutA1, .decLutA2, .decLutA3, .decLutA4, .decLutA5, .decLutA6, .decLutA7,
   .decLutA8, .decLutA9, .decLutAA, .decLutAB, .decLutAC, .decLutAD, .decLutAE, .decLutAF,
   .decLutB0, .decLutB1, .decLutB2, .decLutB3, .decLutB4, .decLutB5, .decLutB6, .decLutB7,
   .decLutB8, .decLutB9, .decLutBA, .decLutBB, .decLutBC, .decLutBD, .decLutBE, .decLutBF]

/-- The rows of `DEC_LUT` in byte order (R80), piece 3. -/
def decLutRows3 : List Instr :=
  [.decLutC0, .decLutC1, .decLutC2, .decLutC3, .decLutC4, .decLutC5, .decLutC6, .decLutC7,
   .decLutC8, .decLutC9, .decLutCA, .decLutCB, .decLutCC, .decLutCD, .decLutCE, .decLutCF,
   .decLutD0, .decLutD1, .decLutD2, .decLutD3, .decLutD4, .decLutD5, .decLutD6, .decLutD7,
   .decLutD8, .decLutD9, .decLutDA, .decLutDB, .decLutDC, .decLutDD, .decLutDE, .decLutDF,
   .decLutE0, .decLutE1, .decLutE2, .decLutE3, .decLutE4, .decLutE5, .decLutE6, .decLutE7,
   .decLutE8, .decLutE9, .decLutEA, .decLutEB, .decLutEC, .decLutED, .decLutEE, .decLutEF,
   .decLutF0, .decLutF1, .decLutF2, .decLutF3, .decLutF4, .decLutF5, .decLutF6, .decLutF7,
   .decLutF8, .decLutF9, .decLutFA, .decLutFB, .decLutFC, .decLutFD, .decLutFE, .decLutFF]

/-- The rows of `DEC_LUT` in byte order (R80). -/
def decLutRows : List Instr :=
  decLutRows0 ++ decLutRows1 ++ decLutRows2 ++ decLutRows3

/-- A CMD word with `start` = 1 (R71). -/
def commandWord (len : Nat) : Nat := 2 * len + 1

/-- The operand of a CMD word: bits `LEN_W` down to 1, bit 0 being `start` (R71, R28). -/
def commandLen (lenW : Option Nat) (w : Nat) : Except Reject Nat :=
  if Config.fitsLen lenW (w / 2) then
    if w % 2 = 1 then .ok (w / 2) else .error .startBitZero
  else .error .commandTooWide

/-- The instruction a presented word stands for, or the reason it stands for none. -/
def decode (lenW : Option Nat) (p : PortWord) : Except Reject Instr :=
  match p with
  | .ctrl .enc w => (commandLen lenW w).map .encStart
  | .ctrl .dec w => (commandLen lenW w).map .decStart
  | .call .enc w => (commandLen lenW w).map .encodeOp
  | .call .dec w => (commandLen lenW w).map .decodeOp
  | .rst b => if b = 1 then .ok .reset else .error .rstLow
  | .encSel v => ((selectOf encSelectTable v).map (Except.ok ∘ EncOp.instr)).getD (.error .noSuchPattern)
  | .decCheck => .ok .decCheck
  | .scanSel v => ((selectOf scanSelectTable v).map (Except.ok ∘ ScanOp.instr)).getD (.error .noSuchPattern)
  | .repackSel v => ((selectOf repackSelectTable v).map (Except.ok ∘ RepackOp.instr)).getD (.error .noSuchPattern)
  | .encIndex i => (encLutRows[i.toNat]?.map Except.ok).getD (.error .noSuchPattern)
  | .decIndex c => (decLutRows[c.toNat]?.map Except.ok).getD (.error .noSuchPattern)

/-- The word of an instruction and the input it is presented at; a bit that is not examined is 0 (R91). -/
def encode (i : Instr) : PortWord :=
  match i with
  | .encStart len => .ctrl .enc (commandWord len)
  | .decStart len => .ctrl .dec (commandWord len)
  | .encodeOp len => .call .enc (commandWord len)
  | .decodeOp len => .call .dec (commandWord len)
  | .encSym0 => .encSel 0b0001
  | .encSym1 => .encSel 0b0011
  | .encSym2 => .encSel 0b0101
  | .encSym3 => .encSel 0b0111
  | .encPad2 => .encSel 0b0100
  | .encPad3 => .encSel 0b0110
  | .encFinish => .encSel 0b1000
  | .decCheck => .decCheck
  | .decScanVal => .scanSel 0b000
  | .decScanPad => .scanSel 0b001
  | .decScanInv => .scanSel 0b010
  | .decScanEnd => .scanSel 0b100
  | .decRepackG3 => .repackSel 0b000
  | .decRepackG2 => .repackSel 0b001
  | .decRepackG1 => .repackSel 0b011
  | .decFinish => .repackSel 0b100
  | .reset => .rst 1
  | .encLut0 => .encIndex 0
  | .encLut1 => .encIndex 1
  | .encLut2 => .encIndex 2
  | .encLut3 => .encIndex 3
  | .encLut4 => .encIndex 4
  | .encLut5 => .encIndex 5
  | .encLut6 => .encIndex 6
  | .encLut7 => .encIndex 7
  | .encLut8 => .encIndex 8
  | .encLut9 => .encIndex 9
  | .encLut10 => .encIndex 10
  | .encLut11 => .encIndex 11
  | .encLut12 => .encIndex 12
  | .encLut13 => .encIndex 13
  | .encLut14 => .encIndex 14
  | .encLut15 => .encIndex 15
  | .encLut16 => .encIndex 16
  | .encLut17 => .encIndex 17
  | .encLut18 => .encIndex 18
  | .encLut19 => .encIndex 19
  | .encLut20 => .encIndex 20
  | .encLut21 => .encIndex 21
  | .encLut22 => .encIndex 22
  | .encLut23 => .encIndex 23
  | .encLut24 => .encIndex 24
  | .encLut25 => .encIndex 25
  | .encLut26 => .encIndex 26
  | .encLut27 => .encIndex 27
  | .encLut28 => .encIndex 28
  | .encLut29 => .encIndex 29
  | .encLut30 => .encIndex 30
  | .encLut31 => .encIndex 31
  | .encLut32 => .encIndex 32
  | .encLut33 => .encIndex 33
  | .encLut34 => .encIndex 34
  | .encLut35 => .encIndex 35
  | .encLut36 => .encIndex 36
  | .encLut37 => .encIndex 37
  | .encLut38 => .encIndex 38
  | .encLut39 => .encIndex 39
  | .encLut40 => .encIndex 40
  | .encLut41 => .encIndex 41
  | .encLut42 => .encIndex 42
  | .encLut43 => .encIndex 43
  | .encLut44 => .encIndex 44
  | .encLut45 => .encIndex 45
  | .encLut46 => .encIndex 46
  | .encLut47 => .encIndex 47
  | .encLut48 => .encIndex 48
  | .encLut49 => .encIndex 49
  | .encLut50 => .encIndex 50
  | .encLut51 => .encIndex 51
  | .encLut52 => .encIndex 52
  | .encLut53 => .encIndex 53
  | .encLut54 => .encIndex 54
  | .encLut55 => .encIndex 55
  | .encLut56 => .encIndex 56
  | .encLut57 => .encIndex 57
  | .encLut58 => .encIndex 58
  | .encLut59 => .encIndex 59
  | .encLut60 => .encIndex 60
  | .encLut61 => .encIndex 61
  | .encLut62 => .encIndex 62
  | .encLut63 => .encIndex 63
  | .decLut00 => .decIndex 0x00
  | .decLut01 => .decIndex 0x01
  | .decLut02 => .decIndex 0x02
  | .decLut03 => .decIndex 0x03
  | .decLut04 => .decIndex 0x04
  | .decLut05 => .decIndex 0x05
  | .decLut06 => .decIndex 0x06
  | .decLut07 => .decIndex 0x07
  | .decLut08 => .decIndex 0x08
  | .decLut09 => .decIndex 0x09
  | .decLut0A => .decIndex 0x0A
  | .decLut0B => .decIndex 0x0B
  | .decLut0C => .decIndex 0x0C
  | .decLut0D => .decIndex 0x0D
  | .decLut0E => .decIndex 0x0E
  | .decLut0F => .decIndex 0x0F
  | .decLut10 => .decIndex 0x10
  | .decLut11 => .decIndex 0x11
  | .decLut12 => .decIndex 0x12
  | .decLut13 => .decIndex 0x13
  | .decLut14 => .decIndex 0x14
  | .decLut15 => .decIndex 0x15
  | .decLut16 => .decIndex 0x16
  | .decLut17 => .decIndex 0x17
  | .decLut18 => .decIndex 0x18
  | .decLut19 => .decIndex 0x19
  | .decLut1A => .decIndex 0x1A
  | .decLut1B => .decIndex 0x1B
  | .decLut1C => .decIndex 0x1C
  | .decLut1D => .decIndex 0x1D
  | .decLut1E => .decIndex 0x1E
  | .decLut1F => .decIndex 0x1F
  | .decLut20 => .decIndex 0x20
  | .decLut21 => .decIndex 0x21
  | .decLut22 => .decIndex 0x22
  | .decLut23 => .decIndex 0x23
  | .decLut24 => .decIndex 0x24
  | .decLut25 => .decIndex 0x25
  | .decLut26 => .decIndex 0x26
  | .decLut27 => .decIndex 0x27
  | .decLut28 => .decIndex 0x28
  | .decLut29 => .decIndex 0x29
  | .decLut2A => .decIndex 0x2A
  | .decLut2B => .decIndex 0x2B
  | .decLut2C => .decIndex 0x2C
  | .decLut2D => .decIndex 0x2D
  | .decLut2E => .decIndex 0x2E
  | .decLut2F => .decIndex 0x2F
  | .decLut30 => .decIndex 0x30
  | .decLut31 => .decIndex 0x31
  | .decLut32 => .decIndex 0x32
  | .decLut33 => .decIndex 0x33
  | .decLut34 => .decIndex 0x34
  | .decLut35 => .decIndex 0x35
  | .decLut36 => .decIndex 0x36
  | .decLut37 => .decIndex 0x37
  | .decLut38 => .decIndex 0x38
  | .decLut39 => .decIndex 0x39
  | .decLut3A => .decIndex 0x3A
  | .decLut3B => .decIndex 0x3B
  | .decLut3C => .decIndex 0x3C
  | .decLut3D => .decIndex 0x3D
  | .decLut3E => .decIndex 0x3E
  | .decLut3F => .decIndex 0x3F
  | .decLut40 => .decIndex 0x40
  | .decLut41 => .decIndex 0x41
  | .decLut42 => .decIndex 0x42
  | .decLut43 => .decIndex 0x43
  | .decLut44 => .decIndex 0x44
  | .decLut45 => .decIndex 0x45
  | .decLut46 => .decIndex 0x46
  | .decLut47 => .decIndex 0x47
  | .decLut48 => .decIndex 0x48
  | .decLut49 => .decIndex 0x49
  | .decLut4A => .decIndex 0x4A
  | .decLut4B => .decIndex 0x4B
  | .decLut4C => .decIndex 0x4C
  | .decLut4D => .decIndex 0x4D
  | .decLut4E => .decIndex 0x4E
  | .decLut4F => .decIndex 0x4F
  | .decLut50 => .decIndex 0x50
  | .decLut51 => .decIndex 0x51
  | .decLut52 => .decIndex 0x52
  | .decLut53 => .decIndex 0x53
  | .decLut54 => .decIndex 0x54
  | .decLut55 => .decIndex 0x55
  | .decLut56 => .decIndex 0x56
  | .decLut57 => .decIndex 0x57
  | .decLut58 => .decIndex 0x58
  | .decLut59 => .decIndex 0x59
  | .decLut5A => .decIndex 0x5A
  | .decLut5B => .decIndex 0x5B
  | .decLut5C => .decIndex 0x5C
  | .decLut5D => .decIndex 0x5D
  | .decLut5E => .decIndex 0x5E
  | .decLut5F => .decIndex 0x5F
  | .decLut60 => .decIndex 0x60
  | .decLut61 => .decIndex 0x61
  | .decLut62 => .decIndex 0x62
  | .decLut63 => .decIndex 0x63
  | .decLut64 => .decIndex 0x64
  | .decLut65 => .decIndex 0x65
  | .decLut66 => .decIndex 0x66
  | .decLut67 => .decIndex 0x67
  | .decLut68 => .decIndex 0x68
  | .decLut69 => .decIndex 0x69
  | .decLut6A => .decIndex 0x6A
  | .decLut6B => .decIndex 0x6B
  | .decLut6C => .decIndex 0x6C
  | .decLut6D => .decIndex 0x6D
  | .decLut6E => .decIndex 0x6E
  | .decLut6F => .decIndex 0x6F
  | .decLut70 => .decIndex 0x70
  | .decLut71 => .decIndex 0x71
  | .decLut72 => .decIndex 0x72
  | .decLut73 => .decIndex 0x73
  | .decLut74 => .decIndex 0x74
  | .decLut75 => .decIndex 0x75
  | .decLut76 => .decIndex 0x76
  | .decLut77 => .decIndex 0x77
  | .decLut78 => .decIndex 0x78
  | .decLut79 => .decIndex 0x79
  | .decLut7A => .decIndex 0x7A
  | .decLut7B => .decIndex 0x7B
  | .decLut7C => .decIndex 0x7C
  | .decLut7D => .decIndex 0x7D
  | .decLut7E => .decIndex 0x7E
  | .decLut7F => .decIndex 0x7F
  | .decLut80 => .decIndex 0x80
  | .decLut81 => .decIndex 0x81
  | .decLut82 => .decIndex 0x82
  | .decLut83 => .decIndex 0x83
  | .decLut84 => .decIndex 0x84
  | .decLut85 => .decIndex 0x85
  | .decLut86 => .decIndex 0x86
  | .decLut87 => .decIndex 0x87
  | .decLut88 => .decIndex 0x88
  | .decLut89 => .decIndex 0x89
  | .decLut8A => .decIndex 0x8A
  | .decLut8B => .decIndex 0x8B
  | .decLut8C => .decIndex 0x8C
  | .decLut8D => .decIndex 0x8D
  | .decLut8E => .decIndex 0x8E
  | .decLut8F => .decIndex 0x8F
  | .decLut90 => .decIndex 0x90
  | .decLut91 => .decIndex 0x91
  | .decLut92 => .decIndex 0x92
  | .decLut93 => .decIndex 0x93
  | .decLut94 => .decIndex 0x94
  | .decLut95 => .decIndex 0x95
  | .decLut96 => .decIndex 0x96
  | .decLut97 => .decIndex 0x97
  | .decLut98 => .decIndex 0x98
  | .decLut99 => .decIndex 0x99
  | .decLut9A => .decIndex 0x9A
  | .decLut9B => .decIndex 0x9B
  | .decLut9C => .decIndex 0x9C
  | .decLut9D => .decIndex 0x9D
  | .decLut9E => .decIndex 0x9E
  | .decLut9F => .decIndex 0x9F
  | .decLutA0 => .decIndex 0xA0
  | .decLutA1 => .decIndex 0xA1
  | .decLutA2 => .decIndex 0xA2
  | .decLutA3 => .decIndex 0xA3
  | .decLutA4 => .decIndex 0xA4
  | .decLutA5 => .decIndex 0xA5
  | .decLutA6 => .decIndex 0xA6
  | .decLutA7 => .decIndex 0xA7
  | .decLutA8 => .decIndex 0xA8
  | .decLutA9 => .decIndex 0xA9
  | .decLutAA => .decIndex 0xAA
  | .decLutAB => .decIndex 0xAB
  | .decLutAC => .decIndex 0xAC
  | .decLutAD => .decIndex 0xAD
  | .decLutAE => .decIndex 0xAE
  | .decLutAF => .decIndex 0xAF
  | .decLutB0 => .decIndex 0xB0
  | .decLutB1 => .decIndex 0xB1
  | .decLutB2 => .decIndex 0xB2
  | .decLutB3 => .decIndex 0xB3
  | .decLutB4 => .decIndex 0xB4
  | .decLutB5 => .decIndex 0xB5
  | .decLutB6 => .decIndex 0xB6
  | .decLutB7 => .decIndex 0xB7
  | .decLutB8 => .decIndex 0xB8
  | .decLutB9 => .decIndex 0xB9
  | .decLutBA => .decIndex 0xBA
  | .decLutBB => .decIndex 0xBB
  | .decLutBC => .decIndex 0xBC
  | .decLutBD => .decIndex 0xBD
  | .decLutBE => .decIndex 0xBE
  | .decLutBF => .decIndex 0xBF
  | .decLutC0 => .decIndex 0xC0
  | .decLutC1 => .decIndex 0xC1
  | .decLutC2 => .decIndex 0xC2
  | .decLutC3 => .decIndex 0xC3
  | .decLutC4 => .decIndex 0xC4
  | .decLutC5 => .decIndex 0xC5
  | .decLutC6 => .decIndex 0xC6
  | .decLutC7 => .decIndex 0xC7
  | .decLutC8 => .decIndex 0xC8
  | .decLutC9 => .decIndex 0xC9
  | .decLutCA => .decIndex 0xCA
  | .decLutCB => .decIndex 0xCB
  | .decLutCC => .decIndex 0xCC
  | .decLutCD => .decIndex 0xCD
  | .decLutCE => .decIndex 0xCE
  | .decLutCF => .decIndex 0xCF
  | .decLutD0 => .decIndex 0xD0
  | .decLutD1 => .decIndex 0xD1
  | .decLutD2 => .decIndex 0xD2
  | .decLutD3 => .decIndex 0xD3
  | .decLutD4 => .decIndex 0xD4
  | .decLutD5 => .decIndex 0xD5
  | .decLutD6 => .decIndex 0xD6
  | .decLutD7 => .decIndex 0xD7
  | .decLutD8 => .decIndex 0xD8
  | .decLutD9 => .decIndex 0xD9
  | .decLutDA => .decIndex 0xDA
  | .decLutDB => .decIndex 0xDB
  | .decLutDC => .decIndex 0xDC
  | .decLutDD => .decIndex 0xDD
  | .decLutDE => .decIndex 0xDE
  | .decLutDF => .decIndex 0xDF
  | .decLutE0 => .decIndex 0xE0
  | .decLutE1 => .decIndex 0xE1
  | .decLutE2 => .decIndex 0xE2
  | .decLutE3 => .decIndex 0xE3
  | .decLutE4 => .decIndex 0xE4
  | .decLutE5 => .decIndex 0xE5
  | .decLutE6 => .decIndex 0xE6
  | .decLutE7 => .decIndex 0xE7
  | .decLutE8 => .decIndex 0xE8
  | .decLutE9 => .decIndex 0xE9
  | .decLutEA => .decIndex 0xEA
  | .decLutEB => .decIndex 0xEB
  | .decLutEC => .decIndex 0xEC
  | .decLutED => .decIndex 0xED
  | .decLutEE => .decIndex 0xEE
  | .decLutEF => .decIndex 0xEF
  | .decLutF0 => .decIndex 0xF0
  | .decLutF1 => .decIndex 0xF1
  | .decLutF2 => .decIndex 0xF2
  | .decLutF3 => .decIndex 0xF3
  | .decLutF4 => .decIndex 0xF4
  | .decLutF5 => .decIndex 0xF5
  | .decLutF6 => .decIndex 0xF6
  | .decLutF7 => .decIndex 0xF7
  | .decLutF8 => .decIndex 0xF8
  | .decLutF9 => .decIndex 0xF9
  | .decLutFA => .decIndex 0xFA
  | .decLutFB => .decIndex 0xFB
  | .decLutFC => .decIndex 0xFC
  | .decLutFD => .decIndex 0xFD
  | .decLutFE => .decIndex 0xFE
  | .decLutFF => .decIndex 0xFF

/-- The same word with every bit that its select table does not examine cleared (the `-` of R91). -/
def PortWord.canon (p : PortWord) : PortWord :=
  match p with
  | .encSel v => .encSel (if v.msb then 0b1000 else v)
  | .scanSel v => .scanSel (if v.msb then 0b100 else v)
  | .repackSel v => .repackSel (if v.msb then 0b100 else v)
  | .ctrl u w => .ctrl u w
  | .call u w => .call u w
  | .rst b => .rst b
  | .decCheck => .decCheck
  | .encIndex i => .encIndex i
  | .decIndex c => .decIndex c

/-- The input at which the bits of a table row are presented when nothing but the bits is known (log 11). The rows of
different inputs share their bits, so no reading of bits alone gives every row; this one gives each of the 256
values to one row: the operations have the small words, then `ENC_LUT`, then `DEC_LUT`; a row of no bits is
`DEC.CHECK`, and a word of more than eight bits is a CMD word to the encoder. -/
def tableInput (nbits w : Nat) : PortWord :=
  if nbits = 0 then .decCheck
  else if 8 < nbits then .ctrl .enc w
  else if w = 1 then .ctrl .enc w
  else if w = 0 ∨ w = 3 ∨ w = 4 then .repackSel (BitVec.ofNat 3 w)
  else if w = 2 then .scanSel (BitVec.ofNat 3 w)
  else if w ≤ 8 then .encSel (BitVec.ofNat 4 w)
  else if w < 64 then .encIndex (BitVec.ofNat 6 w)
  else .decIndex (BitVec.ofNat 8 w)

/-- The instruction the decoder reads from the bits of a table row (log 11). -/
def decodeTableWord (nbits w : Nat) : Option Instr :=
  match decode none (tableInput nbits w) with
  | .ok i => some i
  | .error _ => none

end Sys2Proof
end

