-- ==== Sys2Proof/Machine/State.lean ====
section
/-! DEFINITION. The state of the codec core (10_state.md), plain data: the working registers of the two units, the
four buffers, the implementation's parameters, and the model's own fields (the inputs still to come, the answers of
reads, the counter of free values). -/

namespace Sys2Proof.Machine

/-- `ENC.st` (R21); the code 3 is never taken and has no constructor (R88). -/
inductive EncSt where
  | idle | run | done
  deriving DecidableEq, Repr

/-- `DEC.st` (R22); the codes 5 to 7 are never taken and have no constructor (R88). -/
inductive DecSt where
  | idle | check | scan | repack | done
  deriving DecidableEq, Repr

/-- The three errors of the decoder (60_exceptions.md R190). -/
inductive ErrKind where
  | lengthError | invalidCharacterError | invalidPaddingError
  deriving DecidableEq, Repr

/-- Working registers of the encoder (R21). -/
structure EncRegs where
  /-- `ENC.st` -/
  st : EncSt
  /-- `ENC.LEN`, `n` -/
  len : Nat
  /-- `ENC.o`, the index of the next output character -/
  o : Nat
  /-- `ENC.OUT_LEN` -/
  outLen : Nat
  deriving DecidableEq, Repr

/-- Working registers of the decoder (R22). -/
structure DecRegs where
  /-- `DEC.st` -/
  st : DecSt
  /-- `DEC.LEN`, `L` -/
  len : Nat
  /-- `DEC.i`, the index of the next character to validate -/
  i : Nat
  /-- `DEC.pad`, the number of `=` accepted; 3 is never taken (R88) -/
  pad : Fin 3
  /-- `DEC.prev`, the value of the most recent symbol accepted -/
  prev : Idx
  /-- `DEC.tailbad` -/
  tailbad : Bool
  /-- `DEC.g`, the number of the next group to repack -/
  g : Nat
  /-- `DEC.err`; `none` is the code 0, `OK` -/
  err : Option ErrKind
  /-- `DEC.OUT_LEN` -/
  outLen : Nat
  deriving DecidableEq, Repr

/-- One buffer: the entries written so far, strictly rising by index. An unlisted index holds an unspecified byte
(R37), the one that `Config.unwrittenByte` has for the buffer's `era` (log 3). -/
structure Memory where
  /-- The written entries. -/
  cells : List Host.Cell
  /-- The number of entries the platform provides; `none` is as many as needed (R34, log 2). -/
  cap : Option Nat
  /-- Which unspecified content the unlisted entries have (log 3). -/
  era : Nat
  deriving DecidableEq, Repr

/-- What the platform can place at an address of the system (20_memory.md R58). -/
inductive Place where
  /-- A host-visible register, by unit and number (R27). -/
  | reg (u : UnitId) (r : Fin 4)
  /-- An entry of a buffer (R33). -/
  | entry (sp : Space) (k : Nat)
  deriving DecidableEq, Repr

/-- One register in the parameter `CSR_MAP` (R27, 20_memory.md R58; log 18). -/
structure CsrPlacement where
  addr : Nat
  u : UnitId
  r : Fin 4
  deriving DecidableEq, Repr

/-- A window onto the system's memory: entry `k` of the buffer placed there is the byte at address `first + k`, for `k` below
`size` (20_memory.md R58; log 18). -/
structure BufWindow where
  first : Nat
  size : Nat
  deriving DecidableEq, Repr

/-- The parameter `BUF_MAP` (20_memory.md R58, 70_reset_and_hazards.md R231; log 18): each buffer is a window onto the
system's memory, or, with `none`, a memory inside the block. -/
structure BufMap where
  encIn : Option BufWindow
  encOut : Option BufWindow
  decIn : Option BufWindow
  decOut : Option BufWindow
  deriving DecidableEq, Repr

/-- What the outside presents to the machine at one step (10_state.md R31, 40_commands.md R100; log 5). -/
inductive Input where
  /-- A rising edge of `clk` at unit `u` with no host action. -/
  | clk (u : UnitId)
  /-- The `rst` input at 1. -/
  | rst
  /-- A host write of register `reg` of unit `u` (R27), at an edge where the `rst` input is `rst`. -/
  | writeReg (u : UnitId) (reg : Fin 4) (w : Nat) (rst : Bool)
  /-- A whole operation asked of unit `u` with a CMD word (R104, R106; log 10). -/
  | call (u : UnitId) (w : Nat)
  /-- A stand-alone read of `ENC_LUT` (log 9). -/
  | encIndex (i : BitVec 6)
  /-- A stand-alone read of `DEC_LUT` (log 9). -/
  | decIndex (c : BitVec 8)
  /-- A host write of entry `k` of `U.IN`. -/
  | writeIn (u : UnitId) (k : Nat) (v : Byte)
  /-- A host read of register `reg` of unit `u` (R27). -/
  | readReg (u : UnitId) (reg : Fin 4)
  /-- A host read of entry `k` of `U.OUT`. -/
  | readOut (u : UnitId) (k : Nat)
  /-- A host read of a system address, one register or one byte (20_memory.md R58; log 18). -/
  | busRead (addr : Nat)
  /-- A host write of a system address, one register or one byte (20_memory.md R58; log 18). -/
  | busWrite (addr : Nat) (w : Nat)
  deriving DecidableEq, Repr

/-- The whole machine. -/
structure State where
  /-- Registers of `ENC` (R21). -/
  enc : EncRegs
  /-- Registers of `DEC` (R22). -/
  dec : DecRegs
  /-- `ENC.IN` (R33), where it is a memory inside the block, as the three below it. -/
  encIn : Memory
  /-- `ENC.OUT` (R33). -/
  encOut : Memory
  /-- `DEC.IN` (R33). -/
  decIn : Memory
  /-- `DEC.OUT` (R33). -/
  decOut : Memory
  /-- The parameter `LEN_W`; `none` is the unbounded architectural model (R7, log 1). No step changes it. -/
  lenW : Option Nat
  /-- The parameter `CSR_MAP`: where the platform places the registers (R27, 20_memory.md R58; log 18). No step changes
  it. -/
  csrMap : List CsrPlacement
  /-- The parameter `BUF_MAP`: where the platform places the buffers (20_memory.md R58; log 18). No step changes it. -/
  bufMap : BufMap
  /-- The system's memory, by system address: it holds the entries of the buffers that `BUF_MAP` places (R58, R231; log 18). -/
  sysMem : Memory
  /-- MODEL. The inputs still to come, oldest first (log 5). -/
  agenda : List Input
  /-- MODEL. What the last host read returned (log 15). -/
  hostData : Nat
  /-- MODEL. What the last stand-alone read of a table entry returned (log 9). -/
  lutData : Byte
  /-- MODEL. How many free values have been drawn (log 3). -/
  fresh : Nat
  deriving DecidableEq, Repr

/-- Why the model stops where no run from reset comes. The spec asks for such a fault: 'a fault of the model that no
run reaches' (R177); 'unrepresentable, or stuck' (93_implementation_defined.md U13). All are safe: they withhold an
effect the spec does not give. -/
inductive Fault where
  /-- Raised by a micro-operation outside the condition that selects it (R84, R85): a unit performs no such step. Safe. -/
  | notSelected
  /-- Raised by the step at a select pattern that cannot occur (R84, R85, R177). Safe. -/
  | noSuchPattern
  /-- Raised by a repack micro-operation on a group whose shape no validated string has (R177). Safe. -/
  | unreachableGroup
  /-- Raised by `DEC.SCAN.PAD` when a third `=` would be counted: `DEC.pad = 3` is never taken (R88). Safe. -/
  | reservedPad
  deriving DecidableEq, Repr

/-- What the spec gives no meaning. All are safe: a claim about such a run cannot be proved. -/
inductive Refusal where
  /-- Raised by `exec` for an instruction without a meaning; no arm does. Safe. -/
  | notModelled (mnemonic : String)
  /-- Raised by START: the length exceeds the bound of a finite `LEN_W` (R7: 'a model refuses it'). Safe. -/
  | lengthBeyondBound (u : UnitId)
  /-- Raised by an access to a buffer entry the platform does not provide (R34, U11). Safe. -/
  | beyondCapacity (sp : Space)
  /-- Raised by the step at a host write of `U.IN` while the unit is busy (R228, U7). Safe. -/
  | inputWrittenWhileBusy (u : UnitId)
  /-- Raised by START, by a step and by a whole operation of a unit whose `IN` and `OUT` overlap, or one of whose buffers
overlaps a buffer of the other unit while that is busy; and by a host write into an `OUT` buffer of a busy unit (R231: 'no
meaning'; U12). Safe. -/
  | overlappingBuffers (u : UnitId)
  /-- Raised by the step at a CMD word wider than `1 + LEN_W` bits, which the field cannot hold (R28, R71). Safe. -/
  | commandTooWide
  /-- Raised by the step at a host access by address that reaches nothing or more than one thing, or one that R100 does not
  give the host (20_memory.md R58, R231; log 18). Safe. -/
  | noSuchBusAccess (addr : Nat)
  deriving DecidableEq, Repr

/-- A buffer nothing has written (R37). -/
def Memory.unwritten : Memory := { cells := [], cap := none, era := 0 }

/-- The addresses of a list of cells rise strictly. -/
def risingFrom : List Host.Cell → Bool
  | [] => true
  | [_] => true
  | a :: b :: r => decide (a.1 < b.1) && risingFrom (b :: r)

/-- Entry `k` exists: the platform provides it (R34). The capacity alone decides: that an index at or above `2^LEN_W` exists
where `cap` allows it, though R33 gives the index `LEN_W` bits, is a DESIGN CHOICE (log 2). -/
def Memory.holds (m : Memory) (k : Nat) : Bool :=
  match m.cap with
  | none => true
  | some c => k < c

/-- The canonical form: listed indices rise strictly and exist. No entry equals what an unlisted index reads as, since
an unlisted index has no known value (log 3). -/
def Memory.wf (m : Memory) : Bool := risingFrom m.cells && m.cells.all (fun c => m.holds c.1)

/-- The registers of `ENC` after reset (R37). -/
def EncRegs.reset : EncRegs := { st := .idle, len := 0, o := 0, outLen := 0 }

/-- The registers of `DEC` after reset (R37). -/
def DecRegs.reset : DecRegs :=
  { st := .idle, len := 0, i := 0, pad := 0, prev := 0, tailbad := false, g := 0, err := none, outLen := 0 }

/-- A platform that places no buffer at system addresses. -/
def BufMap.unplaced : BufMap := { encIn := none, encOut := none, decIn := none, decOut := none }

/-- The machine right after reset (R37): every register 0, both units `IDLE`, the buffers unspecified. -/
def State.reset : State :=
  { enc := EncRegs.reset, dec := DecRegs.reset
    encIn := Memory.unwritten, encOut := Memory.unwritten, decIn := Memory.unwritten, decOut := Memory.unwritten
    lenW := none, csrMap := [], bufMap := BufMap.unplaced, sysMem := Memory.unwritten
    agenda := [], hostData := 0, lutData := 0, fresh := 0 }

end Sys2Proof.Machine
end

