-- ==== Sys2Proof/Machine/Ops.lean ====
section
/-! DEFINITION. The named operations over memory and registers (00_scope.md R10), and the error entry (60_exceptions.md
R196). There is no return from an error beside it: nothing is saved and nothing restored, an accepted `DEC.START` or
`RESET` clears it (R198). -/

namespace Sys2Proof.Machine

/-- The outcome of a step or of a meaning. -/
abbrev Out : Type := Host.Outcome State Fault Refusal

/-- Goes on with the state of a first outcome; a stop stays. -/
def andThen (o : Out) (f : State → Out) : Out :=
  match o with
  | .next s => f s
  | .fault r => .fault r
  | .refused r => .refused r

/-! ## Buffers -/

/-- The entry listed at index `k`, if any. -/
def lookupCell : List Host.Cell → Nat → Option Byte
  | [], _ => none
  | c :: r, k => if c.1 = k then some c.2 else lookupCell r k

/-- Lists `v` at index `k`, in its place of the rising order. -/
def insertCell : List Host.Cell → Nat → Byte → List Host.Cell
  | [], k, v => [(k, v)]
  | c :: r, k, v =>
    if k < c.1 then (k, v) :: c :: r
    else if c.1 = k then (k, v) :: r
    else c :: insertCell r k v

/-- What an unlisted index of a buffer reads as: the unspecified byte of the buffer's era (R37, log 3). -/
def Memory.unlisted (sp : Space) (m : Memory) (k : Nat) : Byte := Config.unwrittenByte sp m.era k

/-- The byte at index `k`. -/
def Memory.get (sp : Space) (m : Memory) (k : Nat) : Byte := (lookupCell m.cells k).getD (m.unlisted sp k)

/-- The buffer with `v` at index `k`. -/
def Memory.set (m : Memory) (k : Nat) (v : Byte) : Memory := { m with cells := insertCell m.cells k v }

/-- The buffer with unspecified content, none of it known to equal anything read before (R221, log 4). -/
def Memory.forget (m : Memory) (era : Nat) : Memory := { m with cells := [], era := era }

/-- The memory inside the block for a space (R33). -/
def State.mem (s : State) : Space → Memory
  | .encIn => s.encIn
  | .encOut => s.encOut
  | .decIn => s.decIn
  | .decOut => s.decOut

/-- Replaces the memory inside the block for a space. -/
def State.setMem (s : State) (sp : Space) (m : Memory) : State :=
  match sp with
  | .encIn => { s with encIn := m }
  | .encOut => { s with encOut := m }
  | .decIn => { s with decIn := m }
  | .decOut => { s with decOut := m }

/-- The window that `BUF_MAP` gives a space (20_memory.md R58). -/
def BufMap.window (m : BufMap) : Space → Option BufWindow
  | .encIn => m.encIn
  | .encOut => m.encOut
  | .decIn => m.decIn
  | .decOut => m.decOut

/-- The system address of entry `k` of space `sp`, if the platform places it (R58). -/
def State.addrOf (s : State) (sp : Space) (k : Nat) : Option Nat :=
  match s.bufMap.window sp with
  | none => none
  | some w => if k < w.size then some (w.first + k) else none

/-- Address `a` lies in the window of space `sp`. -/
def State.placedIn (s : State) (sp : Space) (a : Nat) : Bool :=
  match s.bufMap.window sp with
  | none => false
  | some w => decide (w.first ≤ a) && decide (a < w.first + w.size)

/-- Address `a` holds an entry of an `OUT` buffer. -/
def State.outPlaced (s : State) (a : Nat) : Bool := s.placedIn .encOut a || s.placedIn .decOut a

/-- What an unlisted address of the system's memory reads as: a byte that a `RESET` makes unspecified anew where an `OUT`
buffer stands (R37, R221; log 3, log 4). -/
def State.sysUnlisted (s : State) (a : Nat) : Byte :=
  Config.unwrittenSysByte (if s.outPlaced a then s.sysMem.era else 0) a

/-- The byte at system address `a`. -/
def State.sysByte (s : State) (a : Nat) : Byte := (lookupCell s.sysMem.cells a).getD (s.sysUnlisted a)

/-- The byte at index `k` of space `sp`, in the system's memory or inside the block: the machine's one way to read a byte. -/
def State.byteAt (s : State) (sp : Space) (k : Nat) : Byte :=
  match s.addrOf sp k with
  | some a => s.sysByte a
  | none => (s.mem sp).get sp k

/-- Index `k` of space `sp` exists (R34): in its window if the platform places the buffer, else in the block's memory. -/
def State.holds (s : State) (sp : Space) (k : Nat) : Bool :=
  match s.bufMap.window sp with
  | none => (s.mem sp).holds k
  | some w => decide (k < w.size) && s.sysMem.holds (w.first + k)

/-- The state with byte `v` at index `k` of space `sp`; buffers that share the entry's address share the byte (R231). -/
def State.setByte (s : State) (sp : Space) (k : Nat) (v : Byte) : State :=
  match s.addrOf sp k with
  | some a => { s with sysMem := s.sysMem.set a v }
  | none => s.setMem sp ((s.mem sp).set k v)

/-- Two entries are one: the same index of the same space, or one address of the system's memory (R231). -/
def State.sameEntry (s : State) (sp : Space) (k : Nat) (sp' : Space) (k' : Nat) : Bool :=
  decide (sp = sp' ∧ k = k') ||
  match s.addrOf sp k with
  | none => false
  | some a => s.addrOf sp' k' == some a

/-- The windows of two spaces have an address in common (R231). -/
def State.overlap (s : State) (sp sp' : Space) : Bool :=
  match s.bufMap.window sp, s.bufMap.window sp' with
  | some w, some w' => decide (max w.first w'.first < min (w.first + w.size) (w'.first + w'.size))
  | _, _ => false

/-- `MemRead(sp, k, 1)` (R10), its byte handed to `f`; an entry that does not exist is refused (U11, log 2). -/
def memRead (sp : Space) (k : Nat) (s : State) (f : Byte → Out) : Out :=
  if s.holds sp k then f (s.byteAt sp k) else .refused (.beyondCapacity sp)

/-- `MemWrite(sp, k, 1, v)` (R10), the state after it handed to `f`; an entry that does not exist is refused. -/
def memWrite (sp : Space) (k : Nat) (v : Byte) (s : State) (f : State → Out) : Out :=
  if s.holds sp k then f (s.setByte sp k v) else .refused (.beyondCapacity sp)

/-- The input buffer of a unit. -/
def inSpace : UnitId → Space
  | .enc => .encIn
  | .dec => .decIn

/-- The output buffer of a unit. -/
def outSpace : UnitId → Space
  | .enc => .encOut
  | .dec => .decOut

/-- The other unit. -/
def otherUnit : UnitId → UnitId
  | .enc => .dec
  | .dec => .enc

/-- A buffer of one unit and a buffer of the other have an address in common (R231, U12). -/
def State.unitsOverlap (s : State) : Bool :=
  s.overlap .encIn .decIn || s.overlap .encIn .decOut || s.overlap .encOut .decIn || s.overlap .encOut .decOut

/-! ## Registers -/

/-- Writes the encoder's registers. -/
def State.setEnc (s : State) (r : EncRegs) : State := { s with enc := r }

/-- Writes the decoder's registers. -/
def State.setDec (s : State) (r : DecRegs) : State := { s with dec := r }

/-- `ENC.o <- o` -/
def State.setEncO (s : State) (o : Nat) : State := s.setEnc { s.enc with o := o }

/-- `DEC.i <- i` -/
def State.setDecI (s : State) (i : Nat) : State := s.setDec { s.dec with i := i }

/-- `DEC.prev <- v` -/
def State.setDecPrev (s : State) (v : Idx) : State := s.setDec { s.dec with prev := v }

/-- `DEC.pad <- p` -/
def State.setDecPad (s : State) (p : Fin 3) : State := s.setDec { s.dec with pad := p }

/-- `DEC.tailbad <- b` -/
def State.setDecTailbad (s : State) (b : Bool) : State := s.setDec { s.dec with tailbad := b }

/-- `DEC.g <- g` -/
def State.setDecG (s : State) (g : Nat) : State := s.setDec { s.dec with g := g }

/-- `DEC.st <- x` -/
def State.setDecSt (s : State) (x : DecSt) : State := s.setDec { s.dec with st := x }

/-- `DEC.OUT_LEN <- n` -/
def State.setDecOutLen (s : State) (n : Nat) : State := s.setDec { s.dec with outLen := n }

/-! ## The error entry -/

/-- `raise K` (R196): the code, no result, `DONE`; nothing else changes and nothing is saved. -/
def raise (k : ErrKind) (s : State) : State :=
  s.setDec { s.dec with err := some k, outLen := 0, st := .done }

/-! ## Reads that change nothing the spec names -/

/-- The answer of a stand-alone read of a table entry (R53, R54; log 9). -/
def answerLut (entry : Byte) (s : State) : Out := .next { s with lutData := entry }

/-- The answer of a host read (log 15). -/
def answerHost (v : Nat) (s : State) : State := { s with hostData := v }

/-- Draws a free value: the counter moves on. -/
def State.draw (s : State) : State := { s with fresh := s.fresh + 1 }

end Sys2Proof.Machine
end

