-- ==== Sys2Proof/Machine/Tables.lean ====
section
/-! DEFINITION. The two constant tables (10_state.md R35; 30_encoding.md R76, R78, R80) as the spec prints them, and
the class of a byte (R79). The byte codes are ASCII (log 12). -/

namespace Sys2Proof.Machine

/-- Entries 0 to 15 of `ENC_LUT` (R76). -/
def encLutPart0 : List Byte :=
  [0x41, 0x42, 0x43, 0x44, 0x45, 0x46, 0x47, 0x48, 0x49, 0x4A, 0x4B, 0x4C, 0x4D, 0x4E, 0x4F, 0x50]

/-- Entries 16 to 31 of `ENC_LUT` (R76). -/
def encLutPart1 : List Byte :=
  [0x51, 0x52, 0x53, 0x54, 0x55, 0x56, 0x57, 0x58, 0x59, 0x5A, 0x61, 0x62, 0x63, 0x64, 0x65, 0x66]

/-- Entries 32 to 47 of `ENC_LUT` (R76). -/
def encLutPart2 : List Byte :=
  [0x67, 0x68, 0x69, 0x6A, 0x6B, 0x6C, 0x6D, 0x6E, 0x6F, 0x70, 0x71, 0x72, 0x73, 0x74, 0x75, 0x76]

/-- Entries 48 to 63 of `ENC_LUT` (R76). -/
def encLutPart3 : List Byte :=
  [0x77, 0x78, 0x79, 0x7A, 0x30, 0x31, 0x32, 0x33, 0x34, 0x35, 0x36, 0x37, 0x38, 0x39, 0x2B, 0x2F]

/-- `ENC_LUT`: the ASCII code of each symbol of the alphabet in index order (R76). -/
def encLutTable : List Byte := encLutPart0 ++ encLutPart1 ++ encLutPart2 ++ encLutPart3

/-- `ENC_LUT[i]` (R10, R76); the table has an entry for each of the 64 indices. -/
def encLut (i : Idx) : Byte := encLutTable.getD i.toNat 0

/-- Row `0x0x` of `DEC_LUT` (R80). -/
def decLutRow0 : List Byte :=
  [255, 255, 255, 255, 255, 255, 255, 255, 255, 255, 255, 255, 255, 255, 255, 255]

/-- Row `0x1x` of `DEC_LUT` (R80). -/
def decLutRow1 : List Byte :=
  [255, 255, 255, 255, 255, 255, 255, 255, 255, 255, 255, 255, 255, 255, 255, 255]

/-- Row `0x2x` of `DEC_LUT` (R80). -/
def decLutRow2 : List Byte :=
  [255, 255, 255, 255, 255, 255, 255, 255, 255, 255, 255, 62, 255, 255, 255, 63]

/-- Row `0x3x` of `DEC_LUT` (R80). -/
def decLutRow3 : List Byte :=
  [52, 53, 54, 55, 56, 57, 58, 59, 60, 61, 255, 255, 255, 254, 255, 255]

/-- Row `0x4x` of `DEC_LUT` (R80). -/
def decLutRow4 : List Byte :=
  [255, 0, 1, 2, 3, 4, 5, 6, 7, 8, 9, 10, 11, 12, 13, 14]

/-- Row `0x5x` of `DEC_LUT` (R80). -/
def decLutRow5 : List Byte :=
  [15, 16, 17, 18, 19, 20, 21, 22, 23, 24, 25, 255, 255, 255, 255, 255]

/-- Row `0x6x` of `DEC_LUT` (R80). -/
def decLutRow6 : List Byte :=
  [255, 26, 27, 28, 29, 30, 31, 32, 33, 34, 35, 36, 37, 38, 39, 40]

/-- Row `0x7x` of `DEC_LUT` (R80). -/
def decLutRow7 : List Byte :=
  [41, 42, 43, 44, 45, 46, 47, 48, 49, 50, 51, 255, 255, 255, 255, 255]

/-- Row `0x8x` of `DEC_LUT` (R80). -/
def decLutRow8 : List Byte :=
  [255, 255, 255, 255, 255, 255, 255, 255, 255, 255, 255, 255, 255, 255, 255, 255]

/-- Row `0x9x` of `DEC_LUT` (R80). -/
def decLutRow9 : List Byte :=
  [255, 255, 255, 255, 255, 255, 255, 255, 255, 255, 255, 255, 255, 255, 255, 255]

/-- Row `0xAx` of `DEC_LUT` (R80). -/
def decLutRowA : List Byte :=
  [255, 255, 255, 255, 255, 255, 255, 255, 255, 255, 255, 255, 255, 255, 255, 255]

/-- Row `0xBx` of `DEC_LUT` (R80). -/
def decLutRowB : List Byte :=
  [255, 255, 255, 255, 255, 255, 255, 255, 255, 255, 255, 255, 255, 255, 255, 255]

/-- Row `0xCx` of `DEC_LUT` (R80). -/
def decLutRowC : List Byte :=
  [255, 255, 255, 255, 255, 255, 255, 255, 255, 255, 255, 255, 255, 255, 255, 255]

/-- Row `0xDx` of `DEC_LUT` (R80). -/
def decLutRowD : List Byte :=
  [255, 255, 255, 255, 255, 255, 255, 255, 255, 255, 255, 255, 255, 255, 255, 255]

/-- Row `0xEx` of `DEC_LUT` (R80). -/
def decLutRowE : List Byte :=
  [255, 255, 255, 255, 255, 255, 255, 255, 255, 255, 255, 255, 255, 255, 255, 255]

/-- Row `0xFx` of `DEC_LUT` (R80). -/
def decLutRowF : List Byte :=
  [255, 255, 255, 255, 255, 255, 255, 255, 255, 255, 255, 255, 255, 255, 255, 255]

/-- `DEC_LUT`: the inverse of the alphabet, 254 at `=`, 255 elsewhere (R80). -/
def decLutTable : List Byte :=
  decLutRow0 ++ decLutRow1 ++ decLutRow2 ++ decLutRow3 ++ decLutRow4 ++ decLutRow5 ++ decLutRow6 ++ decLutRow7 ++
  decLutRow8 ++ decLutRow9 ++ decLutRowA ++ decLutRowB ++ decLutRowC ++ decLutRowD ++ decLutRowE ++ decLutRowF

/-- `DEC_LUT[c]` (R10, R80); the table has an entry for each of the 256 bytes. -/
def decLut (c : Byte) : Byte := decLutTable.getD c.toNat Config.invEntry

/-- What `DEC_LUT` says of a byte (R14, R79). -/
inductive Cls where
  /-- an alphabet symbol with its 6-bit value -/
  | val (v : Idx)
  /-- the padding character `=` -/
  | pad
  /-- no base64 character -/
  | inv
  deriving DecidableEq, Repr

/-- The class of a byte (R79): its entry at most 63, 254, or 255; the table has no other entry (R78). -/
def cls (c : Byte) : Cls :=
  if decLut c ≤ 63 then .val ((decLut c).setWidth 6)
  else if decLut c = Config.padEntry then .pad
  else .inv

/-- The class code of R85: `VAL` 00, `PAD` 01, `INV` 10. -/
def Cls.code : Cls → BitVec 2
  | .val _ => 0b00
  | .pad => 0b01
  | .inv => 0b10

end Sys2Proof.Machine
end

