-- ==== Sys2Proof/Machine/Flags.lean ====
section
/-! DEFINITION. The flags and the host-visible registers: `busy` and `done` (10_state.md R25), the error codes (R22),
`STATUS` (R29), the read values of the four registers (R27 to R30), and the tail-bit judgement (42_decoder_validation.md
R145, R149). There are no arithmetic flags (R26). -/

namespace Sys2Proof.Machine

/-- `ENC.busy` (R25). -/
def encBusy (s : State) : Bool := s.enc.st == .run

/-- `ENC.done` (R25). -/
def encDone (s : State) : Bool := s.enc.st == .done

/-- `DEC.busy` (R25). -/
def decBusy (s : State) : Bool := s.dec.st == .check || s.dec.st == .scan || s.dec.st == .repack

/-- `DEC.done` (R25). -/
def decDone (s : State) : Bool := s.dec.st == .done

/-- `U.busy` (R25). -/
def busy (u : UnitId) (s : State) : Bool :=
  match u with
  | .enc => encBusy s
  | .dec => decBusy s

/-- `U.done` (R25). -/
def done (u : UnitId) (s : State) : Bool :=
  match u with
  | .enc => encDone s
  | .dec => decDone s

/-- The placement of unit `u`'s buffers has no meaning for an operation of it (70_reset_and_hazards.md R231, U12): its `IN` and
`OUT` overlap, or the other unit is busy and a buffer of one overlaps a buffer of the other. `ENC.OUT` on `DEC.IN` is no such
placement while only one of the units is busy. -/
def State.unsupported (s : State) (u : UnitId) : Bool :=
  s.overlap (inSpace u) (outSpace u) || (busy (otherUnit u) s && s.unitsOverlap)

/-- The code of an error kind (R22, R190). -/
def ErrKind.code : ErrKind → BitVec 2
  | .lengthError => 1
  | .invalidCharacterError => 2
  | .invalidPaddingError => 3

/-- The value of `DEC.err` (R22): 0 without an error. -/
def errCode : Option ErrKind → BitVec 2
  | none => 0
  | some k => k.code

/-- Bits 3:2 of `U.STATUS` (R29): `DEC.err`; hardwired 0 in `ENC` (R207). -/
def statusErr (u : UnitId) (s : State) : BitVec 2 :=
  match u with
  | .enc => 0
  | .dec => errCode s.dec.err

/-- `U.STATUS` (R29): `err` in bits 3:2, `done` in bit 1, `busy` in bit 0. -/
def status (u : UnitId) (s : State) : BitVec 4 :=
  statusErr u s ++ BitVec.ofBool (done u s) ++ BitVec.ofBool (busy u s)

/-- `U.LEN` (R30). -/
def lenReg (u : UnitId) (s : State) : Nat :=
  match u with
  | .enc => s.enc.len
  | .dec => s.dec.len

/-- `U.OUT_LEN` (R30). -/
def outLenReg (u : UnitId) (s : State) : Nat :=
  match u with
  | .enc => s.enc.outLen
  | .dec => s.dec.outLen

/-- What a host read of register `reg` of unit `u` gives (R27): `CTRL` reads 0 (R28), `LEN`, `STATUS`, `OUT_LEN`. -/
def readRegister (u : UnitId) (reg : Fin 4) (s : State) : Nat :=
  match reg with
  | 0 => 0
  | 1 => lenReg u s
  | 2 => (status u s).toNat
  | 3 => outLenReg u s

/-- The tail bits of `idx1` that carry no data when two `=` follow (R149) are not zero. -/
def tailBad2 (prev : Idx) : Bool := prev &&& 0xF != 0

/-- The tail bits of `idx2` that carry no data when one `=` follows (R149) are not zero. -/
def tailBad1 (prev : Idx) : Bool := prev &&& 0x3 != 0

/-- The judgement at the first `=` of the run (R145): `i = L - 2` judges `idx1`, `i = L - 1` judges `idx2`. -/
def tailJudgement (len i : Nat) (prev : Idx) : Bool :=
  if i + 2 = len then tailBad2 prev else tailBad1 prev

end Sys2Proof.Machine
end

