-- ==== Sys2Proof/Machine/Operands.lean ====
section
/-! DEFINITION. The operands of the micro-operations: the encoder's group and its 6-bit fields (41_encoder.md R120,
R121), the decoder's values and bytes (43_decoder_repack.md R170, R171), and the select vectors (30_encoding.md R84,
R85). Formulas are the source's shift and mask forms; R51's slice forms are stated as claims. -/

namespace Sys2Proof.Machine

/-! ## Encoder -/

/-- `m = 4*ceil(n/3)`, the number of output characters (R105, R109). -/
def encM (n : Nat) : Nat := 4 * ((n + 2) / 3)

/-- `m` of the running operation. -/
def State.encM (s : State) : Nat := Machine.encM s.enc.len

/-- `sel = o mod 4` (R121). -/
def State.encSel (s : State) : Nat := s.enc.o % 4

/-- `i = 3*g`, the index of the group's first byte, with `g = o div 4` (R120). -/
def State.encBase (s : State) : Nat := 3 * (s.enc.o / 4)

/-- `rem = min(3, n - i)`, the number of bytes the group has (R120). -/
def State.encRem (s : State) : Nat := min 3 (s.enc.len - s.encBase)

/-- `idx0 = b0 >> 2` (R121, R122). -/
def idx0 (b0 : Byte) : Idx := (b0 >>> 2).setWidth 6

/-- `idx1 = ((b0 & 0x03) << 4) | (b1 >> 4)` (R121, R123). -/
def idx1 (b0 b1 : Byte) : Idx := (((b0 &&& 0x03) <<< 4) ||| (b1 >>> 4)).setWidth 6

/-- `idx2 = ((b1 & 0x0F) << 2) | (b2 >> 6)` (R121, R124). -/
def idx2 (b1 b2 : Byte) : Idx := (((b1 &&& 0x0F) <<< 2) ||| (b2 >>> 6)).setWidth 6

/-- `idx3 = b2 & 0x3F` (R121, R125). -/
def idx3 (b2 : Byte) : Idx := (b2 &&& 0x3F).setWidth 6

/-- Reads `b0` of the group (R120). -/
def readB0 (s : State) (f : Byte → Out) : Out := memRead .encIn s.encBase s f

/-- Reads `b1` of the group; an absent byte is zero and is not read (R120). -/
def readB1 (s : State) (f : Byte → Out) : Out :=
  if 2 ≤ s.encRem then memRead .encIn (s.encBase + 1) s f else f 0

/-- Reads `b2` of the group; an absent byte is zero and is not read (R120). -/
def readB2 (s : State) (f : Byte → Out) : Out :=
  if s.encRem = 3 then memRead .encIn (s.encBase + 2) s f else f 0

/-- The group fetch of every step with `o < m` (R120): 1 to 3 reads of `ENC.IN`, one for each byte the group has (R53),
whether or not the character depends on them. -/
def readEncGroup (s : State) (f : Byte → Byte → Byte → Out) : Out :=
  readB0 s fun b0 => readB1 s fun b1 => readB2 s fun b2 => f b0 b1 b2

/-- The bytes of the encoder's current group, absent ones zero (R120). -/
def State.encGroupBytes (s : State) : Byte × Byte × Byte :=
  (s.byteAt .encIn s.encBase,
   if 2 ≤ s.encRem then s.byteAt .encIn (s.encBase + 1) else 0,
   if s.encRem = 3 then s.byteAt .encIn (s.encBase + 2) else 0)

/-- The encoder is in a step with `o < m` and `sel = k`: the condition common to R122 to R127. -/
def State.encStepAt (s : State) (k : Nat) : Bool :=
  s.enc.st == .run && decide (s.enc.o < s.encM) && s.encSel == k

/-- The select vector of R84 in `RUN`. With `fin` = 1 the other bits are not examined and are given as 0 (log 21). -/
def State.encSelect (s : State) : BitVec 4 :=
  if s.enc.o = s.encM then 0b1000
  else BitVec.ofBool false ++ BitVec.ofNat 2 s.encSel ++ BitVec.ofBool (decide (s.encSel ≤ s.encRem))

/-! ## Decoder -/

/-- `NG = L div 4`, the number of groups (R170). -/
def State.decNG (s : State) : Nat := s.dec.len / 4

/-- `byte0 = (v0 << 2) | (v1 >> 4)` (R171). -/
def byte0 (v0 v1 : Idx) : Byte := (v0.setWidth 8 <<< 2) ||| (v1.setWidth 8 >>> 4)

/-- `byte1 = ((v1 & 0xF) << 4) | (v2 >> 2)` (R171). -/
def byte1 (v1 v2 : Idx) : Byte := ((v1.setWidth 8 &&& 0xF) <<< 4) ||| (v2.setWidth 8 >>> 2)

/-- `byte2 = ((v2 & 0x3) << 6) | v3` (R171). -/
def byte2 (v2 v3 : Idx) : Byte := ((v2.setWidth 8 &&& 0x3) <<< 6) ||| v3.setWidth 8

/-- Reads the class of the next character to validate (R142). -/
def readScan (s : State) (f : Cls → Out) : Out :=
  memRead .decIn s.dec.i s fun c => f (cls c)

/-- Reads the classes of the four characters of group `g` (R170). -/
def readGroup (s : State) (f : Cls → Cls → Cls → Cls → Out) : Out :=
  memRead .decIn (4 * s.dec.g) s fun c0 =>
  memRead .decIn (4 * s.dec.g + 1) s fun c1 =>
  memRead .decIn (4 * s.dec.g + 2) s fun c2 =>
  memRead .decIn (4 * s.dec.g + 3) s fun c3 =>
  f (cls c0) (cls c1) (cls c2) (cls c3)

/-- The class of entry `k` of `DEC.IN`. -/
def State.decCls (s : State) (k : Nat) : Cls := cls (s.byteAt .decIn k)

/-- The four entries of group `g` exist. -/
def State.holdsGroup (s : State) : Bool :=
  s.holds .decIn (4 * s.dec.g) && s.holds .decIn (4 * s.dec.g + 1) &&
  s.holds .decIn (4 * s.dec.g + 2) && s.holds .decIn (4 * s.dec.g + 3)

/-- The select vector of R85 in `SCAN` when a character is left: `end` = 0 and the class code. -/
def scanVector (k : Cls) : BitVec 3 := BitVec.ofBool false ++ k.code

/-- The select vector of R85 in `REPACK` when a group is left: `fin` = 0, `p2`, `p3`. -/
def repackVector (k2 k3 : Cls) : BitVec 3 :=
  BitVec.ofBool false ++ BitVec.ofBool (k2 == .pad) ++ BitVec.ofBool (k3 == .pad)

/-! ## What a unit's own state presents to the decoder (R83 to R85) -/

/-- The word the encoder's state presents; none in `IDLE` and `DONE`, where it performs no step (R83). -/
def encWord (s : State) : Option PortWord :=
  match s.enc.st with
  | .run => some (.encSel s.encSelect)
  | .idle => none
  | .done => none

/-- The word the decoder's state presents; none in `IDLE` and `DONE`. A character that the platform provides no
entry for is refused (U11). With `end` or `fin` = 1 the other bits are given as 0 (log 21). -/
def decWord (s : State) : Except Refusal (Option PortWord) :=
  match s.dec.st with
  | .idle => .ok none
  | .check => .ok (some .decCheck)
  | .scan =>
    if s.dec.i = s.dec.len then .ok (some (.scanSel 0b100))
    else if s.holds .decIn s.dec.i then .ok (some (.scanSel (scanVector (s.decCls s.dec.i))))
    else .error (.beyondCapacity .decIn)
  | .repack =>
    if s.dec.g = s.decNG then .ok (some (.repackSel 0b100))
    else if s.holdsGroup then
      .ok (some (.repackSel (repackVector (s.decCls (4 * s.dec.g + 2)) (s.decCls (4 * s.dec.g + 3)))))
    else .error (.beyondCapacity .decIn)
  | .done => .ok none

/-- The word that unit `u` presents; a step of a unit whose buffers overlap against R231 is refused (U12). -/
def unitWord (u : UnitId) (s : State) : Except Refusal (Option PortWord) :=
  if busy u s && s.unsupported u then .error (.overlappingBuffers u)
  else
    match u with
    | .enc => .ok (encWord s)
    | .dec => decWord s

end Sys2Proof.Machine
end

