-- ==== Sys2Proof/Machine/Decoder.lean ====
section
/-! DEFINITION. The decoder's micro-operations: the length check and the scan (42_decoder_validation.md R141 to R146),
the repacking (43_decoder_repack.md R170 to R175). Each takes its effect when the condition that selects it holds
(30_encoding.md R85) and is a fault of the model otherwise. A decoder error is an effect, `raise` (R196). -/

namespace Sys2Proof.Machine

/-! ## Validation -/

/-- `DEC.CHECK` (R141). -/
def execDecCheck (s : State) : Out :=
  if s.dec.st == .check then
    if s.dec.len = 0 then .next (s.setDecSt .done)
    else if s.dec.len % 4 ≠ 0 then .next (raise .lengthError s)
    else .next (s.setDecSt .scan)
  else .fault .notSelected

/-- The decoder is in `SCAN` with a character left, `i < L` (R142). -/
def State.decScanning (s : State) : Bool := s.dec.st == .scan && decide (s.dec.i < s.dec.len)

/-- The effect of `DEC.SCAN.VAL` for a symbol of value `v` (R144). -/
def acceptVal (v : Idx) (s : State) : State :=
  if s.dec.pad ≠ 0 then raise .invalidPaddingError s
  else (s.setDecPrev v).setDecI (s.dec.i + 1)

/-- `DEC.SCAN.VAL` (R144). -/
def execDecScanVal (s : State) : Out :=
  if s.decScanning then
    readScan s fun k =>
      match k with
      | .val v => .next (acceptVal v s)
      | .pad => .fault .notSelected
      | .inv => .fault .notSelected
  else .fault .notSelected

/-- `DEC.tailbad` after an accepted `=` (R145): judged at the first of the run, kept at the second. -/
def tailbadAfterPad (r : DecRegs) : Bool :=
  if r.pad = 0 then tailJudgement r.len r.i r.prev else r.tailbad

/-- The effect of `DEC.SCAN.PAD` (R145). `DEC.pad = 3` is never taken (R88). -/
def acceptPad (s : State) : Out :=
  if s.dec.i + 2 < s.dec.len then .next (raise .invalidPaddingError s)
  else if h : s.dec.pad.val + 1 < 3 then
    .next (((s.setDecTailbad (tailbadAfterPad s.dec)).setDecPad ⟨s.dec.pad.val + 1, h⟩).setDecI (s.dec.i + 1))
  else .fault .reservedPad

/-- `DEC.SCAN.PAD` (R145). -/
def execDecScanPad (s : State) : Out :=
  if s.decScanning then
    readScan s fun k =>
      match k with
      | .pad => acceptPad s
      | .val _ => .fault .notSelected
      | .inv => .fault .notSelected
  else .fault .notSelected

/-- `DEC.SCAN.INV` (R143). -/
def execDecScanInv (s : State) : Out :=
  if s.decScanning then
    readScan s fun k =>
      match k with
      | .inv => .next (raise .invalidCharacterError s)
      | .val _ => .fault .notSelected
      | .pad => .fault .notSelected
  else .fault .notSelected

/-- `DEC.SCAN.END` (R146). -/
def execDecScanEnd (s : State) : Out :=
  if s.dec.st == .scan && s.dec.i == s.dec.len then
    if s.dec.tailbad then .next (raise .invalidPaddingError s)
    else .next (s.setDecSt .repack)
  else .fault .notSelected

/-! ## Repacking -/

/-- The decoder is in `REPACK` with a group left, `g < NG` (R170). -/
def State.decRepacking (s : State) : Bool := s.dec.st == .repack && decide (s.dec.g < s.decNG)

/-- A group that the repack micro-operation of pattern `v` has no output for: one of another shape, which selects
another micro-operation, or one that no validated string has (R177). -/
def badGroup (v : BitVec 3) (k2 k3 : Cls) : Out :=
  if repackVector k2 k3 = v then .fault .unreachableGroup else .fault .notSelected

/-- The end of a repack micro-operation: `DEC.g <- g + 1`. -/
def nextGroup (g : Nat) (t : State) : Out := .next (t.setDecG (g + 1))

/-- `DEC.REPACK.G3` (R172). -/
def execDecRepackG3 (s : State) : Out :=
  if s.decRepacking then
    readGroup s fun k0 k1 k2 k3 =>
      match k0, k1, k2, k3 with
      | .val v0, .val v1, .val v2, .val v3 =>
        memWrite .decOut (3 * s.dec.g) (byte0 v0 v1) s fun t =>
        memWrite .decOut (3 * s.dec.g + 1) (byte1 v1 v2) t fun t =>
        memWrite .decOut (3 * s.dec.g + 2) (byte2 v2 v3) t (nextGroup s.dec.g)
      | _, _, _, _ => badGroup 0b000 k2 k3
  else .fault .notSelected

/-- `DEC.REPACK.G2` (R173). -/
def execDecRepackG2 (s : State) : Out :=
  if s.decRepacking then
    readGroup s fun k0 k1 k2 k3 =>
      match k0, k1, k2, k3 with
      | .val v0, .val v1, .val v2, .pad =>
        memWrite .decOut (3 * s.dec.g) (byte0 v0 v1) s fun t =>
        memWrite .decOut (3 * s.dec.g + 1) (byte1 v1 v2) t (nextGroup s.dec.g)
      | _, _, _, _ => badGroup 0b001 k2 k3
  else .fault .notSelected

/-- `DEC.REPACK.G1` (R174). -/
def execDecRepackG1 (s : State) : Out :=
  if s.decRepacking then
    readGroup s fun k0 k1 k2 k3 =>
      match k0, k1, k2, k3 with
      | .val v0, .val v1, .pad, .pad =>
        memWrite .decOut (3 * s.dec.g) (byte0 v0 v1) s (nextGroup s.dec.g)
      | _, _, _, _ => badGroup 0b011 k2 k3
  else .fault .notSelected

/-- `DEC.OUT_LEN` on success: `(L div 4)*3 - pad` (R107, R175). -/
def decResultLen (len : Nat) (pad : Nat) : Nat := len / 4 * 3 - pad

/-- `DEC.FINISH` (R175). -/
def execDecFinish (s : State) : Out :=
  if s.dec.st == .repack && s.dec.g == s.decNG then
    .next ((s.setDecOutLen (decResultLen s.dec.len s.dec.pad.val)).setDecSt .done)
  else .fault .notSelected

/-! ## One step of the unit, and its run -/

/-- The meaning of a selected scan micro-operation. -/
def execScanOp (op : ScanOp) (s : State) : Out :=
  match op with
  | .val => execDecScanVal s
  | .pad => execDecScanPad s
  | .inv => execDecScanInv s
  | .fin => execDecScanEnd s

/-- The meaning of a selected repack micro-operation. -/
def execRepackOp (op : RepackOp) (s : State) : Out :=
  match op with
  | .g3 => execDecRepackG3 s
  | .g2 => execDecRepackG2 s
  | .g1 => execDecRepackG1 s
  | .fin => execDecFinish s

/-- The meaning of the word the decoder's state presents. -/
def execDecWord (p : PortWord) (s : State) : Out :=
  match p with
  | .decCheck => execDecCheck s
  | .scanSel v =>
    match selectOf scanSelectTable v with
    | some op => execScanOp op s
    | none => .fault .noSuchPattern
  | .repackSel v =>
    match selectOf repackSelectTable v with
    | some op => execRepackOp op s
    | none => .fault .noSuchPattern
  | _ => .fault .noSuchPattern

/-- One step of the decoder while it is busy: the micro-operation its state selects (R85), refused where its buffers overlap
against R231. -/
def decStep (s : State) : Out :=
  match unitWord .dec s with
  | .ok (some p) => execDecWord p s
  | .ok none => .next s
  | .error r => .refused r

/-- The decoder's steps up to done, at most `k` of them. -/
def decRun : Nat → State → Out
  | 0, s => .next s
  | k + 1, s => if decBusy s then andThen (decStep s) (decRun k) else .next s

/-- Enough steps for the running operation to end: `1 + (L + 1) + (L div 4 + 1)` (R235). -/
def decBudget (s : State) : Nat := 1 + (s.dec.len + 1) + (s.dec.len / 4 + 1)

end Sys2Proof.Machine
end

