-- ==== Sys2Proof/Machine/Encoder.lean ====
section
/-! DEFINITION. The encoder's micro-operations (41_encoder.md R122 to R128). Each takes its effect when the condition
that selects it holds (30_encoding.md R84) and is a fault of the model otherwise, since a unit performs no such step.
Each writing step fetches its group first (R120, 20_memory.md R53). -/

namespace Sys2Proof.Machine

/-- The write common to R122 to R127: the character at index `o`, then `ENC.o <- o + 1` (R131). -/
def encPut (ch : Byte) (s : State) : Out :=
  memWrite .encOut s.enc.o ch s fun t => .next (t.setEncO (s.enc.o + 1))

/-- `ENC.SYM0` (R122). -/
def execEncSym0 (s : State) : Out :=
  if s.encStepAt 0 then readEncGroup s fun b0 _ _ => encPut (encLut (idx0 b0)) s
  else .fault .notSelected

/-- `ENC.SYM1` (R123). -/
def execEncSym1 (s : State) : Out :=
  if s.encStepAt 1 then readEncGroup s fun b0 b1 _ => encPut (encLut (idx1 b0 b1)) s
  else .fault .notSelected

/-- `ENC.SYM2` (R124). -/
def execEncSym2 (s : State) : Out :=
  if s.encStepAt 2 && decide (2 ≤ s.encRem) then
    readEncGroup s fun _ b1 b2 => encPut (encLut (idx2 b1 b2)) s
  else .fault .notSelected

/-- `ENC.SYM3` (R125). -/
def execEncSym3 (s : State) : Out :=
  if s.encStepAt 3 && s.encRem == 3 then readEncGroup s fun _ _ b2 => encPut (encLut (idx3 b2)) s
  else .fault .notSelected

/-- `ENC.PAD2` (R126): the group is fetched and none of it is used. -/
def execEncPad2 (s : State) : Out :=
  if s.encStepAt 2 && s.encRem == 1 then readEncGroup s fun _ _ _ => encPut Config.padChar s
  else .fault .notSelected

/-- `ENC.PAD3` (R127): the group is fetched and none of it is used. -/
def execEncPad3 (s : State) : Out :=
  if s.encStepAt 3 && decide (s.encRem ≤ 2) then
    readEncGroup s fun _ _ _ => encPut Config.padChar s
  else .fault .notSelected

/-- `ENC.FINISH` (R128). -/
def execEncFinish (s : State) : Out :=
  if s.enc.st == .run && s.enc.o == s.encM then
    .next (s.setEnc { s.enc with outLen := s.enc.o, st := .done })
  else .fault .notSelected

/-- The meaning of a selected micro-operation. -/
def execEncOp (op : EncOp) (s : State) : Out :=
  match op with
  | .sym0 => execEncSym0 s
  | .sym1 => execEncSym1 s
  | .sym2 => execEncSym2 s
  | .sym3 => execEncSym3 s
  | .pad2 => execEncPad2 s
  | .pad3 => execEncPad3 s
  | .finish => execEncFinish s

/-- One step of the encoder while it is in `RUN`: the micro-operation its select vector selects (R84), refused where its
buffers overlap against R231. -/
def encStep (s : State) : Out :=
  if s.unsupported .enc then .refused (.overlappingBuffers .enc)
  else
    match selectOf encSelectTable s.encSelect with
    | some op => execEncOp op s
    | none => .fault .noSuchPattern

/-- The encoder's steps up to done, at most `k` of them. -/
def encRun : Nat → State → Out
  | 0, s => .next s
  | k + 1, s => if encBusy s then andThen (encStep s) (encRun k) else .next s

/-- Enough steps for the running operation to end: one for each character left and `ENC.FINISH` (R235). -/
def encBudget (s : State) : Nat := s.encM - s.enc.o + 1

end Sys2Proof.Machine
end

