-- ==== Sys2Proof/Machine/Commands.lean ====
section
/-! DEFINITION. The host commands (40_commands.md R101 to R103), the whole operations (R104, R106) and `RESET`
(70_reset_and_hazards.md R220, R221). -/

namespace Sys2Proof.Machine

/-- The encoder's registers after an accepted `ENC.START len` (R101). -/
def EncRegs.started (len : Nat) : EncRegs := { st := .run, len := len, o := 0, outLen := 0 }

/-- The decoder's registers after an accepted `DEC.START len` (R102). -/
def DecRegs.started (len : Nat) : DecRegs :=
  { st := .check, len := len, i := 0, pad := 0, prev := 0, tailbad := false, g := 0, err := none, outLen := 0 }

/-- `ENC.START len` (R101): ignored while busy (R103); refused where the buffers overlap against R231, and beyond the
bound of a finite `LEN_W` (R7). -/
def execEncStart (len : Nat) (s : State) : Out :=
  if encBusy s then .next s
  else if s.unsupported .enc then .refused (.overlappingBuffers .enc)
  else if Config.lenInBound s.lenW .enc len then .next (s.setEnc (EncRegs.started len))
  else .refused (.lengthBeyondBound .enc)

/-- `DEC.START len` (R102): ignored while busy (R103); refused where the buffers overlap against R231, and beyond the
bound of a finite `LEN_W` (R7). -/
def execDecStart (len : Nat) (s : State) : Out :=
  if decBusy s then .next s
  else if s.unsupported .dec then .refused (.overlappingBuffers .dec)
  else if Config.lenInBound s.lenW .dec len then .next (s.setDec (DecRegs.started len))
  else .refused (.lengthBeyondBound .dec)

/-- `ENCODE` (R104): `ENC.START len` followed by the unit's steps up to done (log 10). -/
def execEncodeOp (len : Nat) (s : State) : Out :=
  andThen (execEncStart len s) fun t => encRun (encBudget t) t

/-- `DECODE` (R106): `DEC.START len` followed by the unit's steps up to done (log 10). -/
def execDecodeOp (len : Nat) (s : State) : Out :=
  andThen (execDecStart len s) fun t => decRun (decBudget t) t

/-- An output buffer inside the block after `RESET`: unspecified, whatever it held (R37, R221, U3, U4, U6; log 4). -/
def outAfterReset (era : Nat) (m : Memory) : Memory := m.forget era

/-- The system's memory after `RESET`: unspecified where an `OUT` buffer stands, untouched elsewhere (R37, R221; log 4). -/
def sysAfterReset (s : State) (era : Nat) : Memory :=
  { s.sysMem with cells := s.sysMem.cells.filter (fun c => !s.outPlaced c.1), era := era }

/-- The state after `RESET` (R220, R221): every working register of both units at its value of R37, the `OUT` buffers
unspecified; `U.IN` untouched. -/
def resetState (s : State) : State :=
  { s with
    enc := EncRegs.reset
    dec := DecRegs.reset
    encOut := outAfterReset (s.fresh + 1) s.encOut
    decOut := outAfterReset (s.fresh + 1) s.decOut
    sysMem := sysAfterReset s (s.fresh + 1)
    fresh := s.fresh + 1 }

/-- `RESET` (R220). -/
def execReset (s : State) : Out := .next (resetState s)

end Sys2Proof.Machine
end

