-- ==== Sys2Proof/Machine/DecLut.lean ====
section
/-! DEFINITION. The meanings of the 256 rows `DEC_LUT[c]` (30_encoding.md R80): a read of the decode table at the
byte of the row. A read changes nothing the spec names (20_memory.md R54); its answer, one 8-bit entry (R53), is
returned in the model's own field `lutData` (log 9). -/

namespace Sys2Proof.Machine

/-- `DEC_LUT[0x00]` (R80). -/
def execDecLut00 (s : State) : Out := answerLut (decLut 0x00) s

/-- `DEC_LUT[0x01]` (R80). -/
def execDecLut01 (s : State) : Out := answerLut (decLut 0x01) s

/-- `DEC_LUT[0x02]` (R80). -/
def execDecLut02 (s : State) : Out := answerLut (decLut 0x02) s

/-- `DEC_LUT[0x03]` (R80). -/
def execDecLut03 (s : State) : Out := answerLut (decLut 0x03) s

/-- `DEC_LUT[0x04]` (R80). -/
def execDecLut04 (s : State) : Out := answerLut (decLut 0x04) s

/-- `DEC_LUT[0x05]` (R80). -/
def execDecLut05 (s : State) : Out := answerLut (decLut 0x05) s

/-- `DEC_LUT[0x06]` (R80). -/
def execDecLut06 (s : State) : Out := answerLut (decLut 0x06) s

/-- `DEC_LUT[0x07]` (R80). -/
def execDecLut07 (s : State) : Out := answerLut (decLut 0x07) s

/-- `DEC_LUT[0x08]` (R80). -/
def execDecLut08 (s : State) : Out := answerLut (decLut 0x08) s

/-- `DEC_LUT[0x09]` (R80). -/
def execDecLut09 (s : State) : Out := answerLut (decLut 0x09) s

/-- `DEC_LUT[0x0A]` (R80). -/
def execDecLut0A (s : State) : Out := answerLut (decLut 0x0A) s

/-- `DEC_LUT[0x0B]` (R80). -/
def execDecLut0B (s : State) : Out := answerLut (decLut 0x0B) s

/-- `DEC_LUT[0x0C]` (R80). -/
def execDecLut0C (s : State) : Out := answerLut (decLut 0x0C) s

/-- `DEC_LUT[0x0D]` (R80). -/
def execDecLut0D (s : State) : Out := answerLut (decLut 0x0D) s

/-- `DEC_LUT[0x0E]` (R80). -/
def execDecLut0E (s : State) : Out := answerLut (decLut 0x0E) s

/-- `DEC_LUT[0x0F]` (R80). -/
def execDecLut0F (s : State) : Out := answerLut (decLut 0x0F) s

/-- `DEC_LUT[0x10]` (R80). -/
def execDecLut10 (s : State) : Out := answerLut (decLut 0x10) s

/-- `DEC_LUT[0x11]` (R80). -/
def execDecLut11 (s : State) : Out := answerLut (decLut 0x11) s

/-- `DEC_LUT[0x12]` (R80). -/
def execDecLut12 (s : State) : Out := answerLut (decLut 0x12) s

/-- `DEC_LUT[0x13]` (R80). -/
def execDecLut13 (s : State) : Out := answerLut (decLut 0x13) s

/-- `DEC_LUT[0x14]` (R80). -/
def execDecLut14 (s : State) : Out := answerLut (decLut 0x14) s

/-- `DEC_LUT[0x15]` (R80). -/
def execDecLut15 (s : State) : Out := answerLut (decLut 0x15) s

/-- `DEC_LUT[0x16]` (R80). -/
def execDecLut16 (s : State) : Out := answerLut (decLut 0x16) s

/-- `DEC_LUT[0x17]` (R80). -/
def execDecLut17 (s : State) : Out := answerLut (decLut 0x17) s

/-- `DEC_LUT[0x18]` (R80). -/
def execDecLut18 (s : State) : Out := answerLut (decLut 0x18) s

/-- `DEC_LUT[0x19]` (R80). -/
def execDecLut19 (s : State) : Out := answerLut (decLut 0x19) s

/-- `DEC_LUT[0x1A]` (R80). -/
def execDecLut1A (s : State) : Out := answerLut (decLut 0x1A) s

/-- `DEC_LUT[0x1B]` (R80). -/
def execDecLut1B (s : State) : Out := answerLut (decLut 0x1B) s

/-- `DEC_LUT[0x1C]` (R80). -/
def execDecLut1C (s : State) : Out := answerLut (decLut 0x1C) s

/-- `DEC_LUT[0x1D]` (R80). -/
def execDecLut1D (s : State) : Out := answerLut (decLut 0x1D) s

/-- `DEC_LUT[0x1E]` (R80). -/
def execDecLut1E (s : State) : Out := answerLut (decLut 0x1E) s

/-- `DEC_LUT[0x1F]` (R80). -/
def execDecLut1F (s : State) : Out := answerLut (decLut 0x1F) s

/-- `DEC_LUT[0x20]` (R80). -/
def execDecLut20 (s : State) : Out := answerLut (decLut 0x20) s

/-- `DEC_LUT[0x21]` (R80). -/
def execDecLut21 (s : State) : Out := answerLut (decLut 0x21) s

/-- `DEC_LUT[0x22]` (R80). -/
def execDecLut22 (s : State) : Out := answerLut (decLut 0x22) s

/-- `DEC_LUT[0x23]` (R80). -/
def execDecLut23 (s : State) : Out := answerLut (decLut 0x23) s

/-- `DEC_LUT[0x24]` (R80). -/
def execDecLut24 (s : State) : Out := answerLut (decLut 0x24) s

/-- `DEC_LUT[0x25]` (R80). -/
def execDecLut25 (s : State) : Out := answerLut (decLut 0x25) s

/-- `DEC_LUT[0x26]` (R80). -/
def execDecLut26 (s : State) : Out := answerLut (decLut 0x26) s

/-- `DEC_LUT[0x27]` (R80). -/
def execDecLut27 (s : State) : Out := answerLut (decLut 0x27) s

/-- `DEC_LUT[0x28]` (R80). -/
def execDecLut28 (s : State) : Out := answerLut (decLut 0x28) s

/-- `DEC_LUT[0x29]` (R80). -/
def execDecLut29 (s : State) : Out := answerLut (decLut 0x29) s

/-- `DEC_LUT[0x2A]` (R80). -/
def execDecLut2A (s : State) : Out := answerLut (decLut 0x2A) s

/-- `DEC_LUT[0x2B]` (R80). -/
def execDecLut2B (s : State) : Out := answerLut (decLut 0x2B) s

/-- `DEC_LUT[0x2C]` (R80). -/
def execDecLut2C (s : State) : Out := answerLut (decLut 0x2C) s

/-- `DEC_LUT[0x2D]` (R80). -/
def execDecLut2D (s : State) : Out := answerLut (decLut 0x2D) s

/-- `DEC_LUT[0x2E]` (R80). -/
def execDecLut2E (s : State) : Out := answerLut (decLut 0x2E) s

/-- `DEC_LUT[0x2F]` (R80). -/
def execDecLut2F (s : State) : Out := answerLut (decLut 0x2F) s

/-- `DEC_LUT[0x30]` (R80). -/
def execDecLut30 (s : State) : Out := answerLut (decLut 0x30) s

/-- `DEC_LUT[0x31]` (R80). -/
def execDecLut31 (s : State) : Out := answerLut (decLut 0x31) s

/-- `DEC_LUT[0x32]` (R80). -/
def execDecLut32 (s : State) : Out := answerLut (decLut 0x32) s

/-- `DEC_LUT[0x33]` (R80). -/
def execDecLut33 (s : State) : Out := answerLut (decLut 0x33) s

/-- `DEC_LUT[0x34]` (R80). -/
def execDecLut34 (s : State) : Out := answerLut (decLut 0x34) s

/-- `DEC_LUT[0x35]` (R80). -/
def execDecLut35 (s : State) : Out := answerLut (decLut 0x35) s

/-- `DEC_LUT[0x36]` (R80). -/
def execDecLut36 (s : State) : Out := answerLut (decLut 0x36) s

/-- `DEC_LUT[0x37]` (R80). -/
def execDecLut37 (s : State) : Out := answerLut (decLut 0x37) s

/-- `DEC_LUT[0x38]` (R80). -/
def execDecLut38 (s : State) : Out := answerLut (decLut 0x38) s

/-- `DEC_LUT[0x39]` (R80). -/
def execDecLut39 (s : State) : Out := answerLut (decLut 0x39) s

/-- `DEC_LUT[0x3A]` (R80). -/
def execDecLut3A (s : State) : Out := answerLut (decLut 0x3A) s

/-- `DEC_LUT[0x3B]` (R80). -/
def execDecLut3B (s : State) : Out := answerLut (decLut 0x3B) s

/-- `DEC_LUT[0x3C]` (R80). -/
def execDecLut3C (s : State) : Out := answerLut (decLut 0x3C) s

/-- `DEC_LUT[0x3D]` (R80). -/
def execDecLut3D (s : State) : Out := answerLut (decLut 0x3D) s

/-- `DEC_LUT[0x3E]` (R80). -/
def execDecLut3E (s : State) : Out := answerLut (decLut 0x3E) s

/-- `DEC_LUT[0x3F]` (R80). -/
def execDecLut3F (s : State) : Out := answerLut (decLut 0x3F) s

/-- `DEC_LUT[0x40]` (R80). -/
def execDecLut40 (s : State) : Out := answerLut (decLut 0x40) s

/-- `DEC_LUT[0x41]` (R80). -/
def execDecLut41 (s : State) : Out := answerLut (decLut 0x41) s

/-- `DEC_LUT[0x42]` (R80). -/
def execDecLut42 (s : State) : Out := answerLut (decLut 0x42) s

/-- `DEC_LUT[0x43]` (R80). -/
def execDecLut43 (s : State) : Out := answerLut (decLut 0x43) s

/-- `DEC_LUT[0x44]` (R80). -/
def execDecLut44 (s : State) : Out := answerLut (decLut 0x44) s

/-- `DEC_LUT[0x45]` (R80). -/
def execDecLut45 (s : State) : Out := answerLut (decLut 0x45) s

/-- `DEC_LUT[0x46]` (R80). -/
def execDecLut46 (s : State) : Out := answerLut (decLut 0x46) s

/-- `DEC_LUT[0x47]` (R80). -/
def execDecLut47 (s : State) : Out := answerLut (decLut 0x47) s

/-- `DEC_LUT[0x48]` (R80). -/
def execDecLut48 (s : State) : Out := answerLut (decLut 0x48) s

/-- `DEC_LUT[0x49]` (R80). -/
def execDecLut49 (s : State) : Out := answerLut (decLut 0x49) s

/-- `DEC_LUT[0x4A]` (R80). -/
def execDecLut4A (s : State) : Out := answerLut (decLut 0x4A) s

/-- `DEC_LUT[0x4B]` (R80). -/
def execDecLut4B (s : State) : Out := answerLut (decLut 0x4B) s

/-- `DEC_LUT[0x4C]` (R80). -/
def execDecLut4C (s : State) : Out := answerLut (decLut 0x4C) s

/-- `DEC_LUT[0x4D]` (R80). -/
def execDecLut4D (s : State) : Out := answerLut (decLut 0x4D) s

/-- `DEC_LUT[0x4E]` (R80). -/
def execDecLut4E (s : State) : Out := answerLut (decLut 0x4E) s

/-- `DEC_LUT[0x4F]` (R80). -/
def execDecLut4F (s : State) : Out := answerLut (decLut 0x4F) s

/-- `DEC_LUT[0x50]` (R80). -/
def execDecLut50 (s : State) : Out := answerLut (decLut 0x50) s

/-- `DEC_LUT[0x51]` (R80). -/
def execDecLut51 (s : State) : Out := answerLut (decLut 0x51) s

/-- `DEC_LUT[0x52]` (R80). -/
def execDecLut52 (s : State) : Out := answerLut (decLut 0x52) s

/-- `DEC_LUT[0x53]` (R80). -/
def execDecLut53 (s : State) : Out := answerLut (decLut 0x53) s

/-- `DEC_LUT[0x54]` (R80). -/
def execDecLut54 (s : State) : Out := answerLut (decLut 0x54) s

/-- `DEC_LUT[0x55]` (R80). -/
def execDecLut55 (s : State) : Out := answerLut (decLut 0x55) s

/-- `DEC_LUT[0x56]` (R80). -/
def execDecLut56 (s : State) : Out := answerLut (decLut 0x56) s

/-- `DEC_LUT[0x57]` (R80). -/
def execDecLut57 (s : State) : Out := answerLut (decLut 0x57) s

/-- `DEC_LUT[0x58]` (R80). -/
def execDecLut58 (s : State) : Out := answerLut (decLut 0x58) s

/-- `DEC_LUT[0x59]` (R80). -/
def execDecLut59 (s : State) : Out := answerLut (decLut 0x59) s

/-- `DEC_LUT[0x5A]` (R80). -/
def execDecLut5A (s : State) : Out := answerLut (decLut 0x5A) s

/-- `DEC_LUT[0x5B]` (R80). -/
def execDecLut5B (s : State) : Out := answerLut (decLut 0x5B) s

/-- `DEC_LUT[0x5C]` (R80). -/
def execDecLut5C (s : State) : Out := answerLut (decLut 0x5C) s

/-- `DEC_LUT[0x5D]` (R80). -/
def execDecLut5D (s : State) : Out := answerLut (decLut 0x5D) s

/-- `DEC_LUT[0x5E]` (R80). -/
def execDecLut5E (s : State) : Out := answerLut (decLut 0x5E) s

/-- `DEC_LUT[0x5F]` (R80). -/
def execDecLut5F (s : State) : Out := answerLut (decLut 0x5F) s

/-- `DEC_LUT[0x60]` (R80). -/
def execDecLut60 (s : State) : Out := answerLut (decLut 0x60) s

/-- `DEC_LUT[0x61]` (R80). -/
def execDecLut61 (s : State) : Out := answerLut (decLut 0x61) s

/-- `DEC_LUT[0x62]` (R80). -/
def execDecLut62 (s : State) : Out := answerLut (decLut 0x62) s

/-- `DEC_LUT[0x63]` (R80). -/
def execDecLut63 (s : State) : Out := answerLut (decLut 0x63) s

/-- `DEC_LUT[0x64]` (R80). -/
def execDecLut64 (s : State) : Out := answerLut (decLut 0x64) s

/-- `DEC_LUT[0x65]` (R80). -/
def execDecLut65 (s : State) : Out := answerLut (decLut 0x65) s

/-- `DEC_LUT[0x66]` (R80). -/
def execDecLut66 (s : State) : Out := answerLut (decLut 0x66) s

/-- `DEC_LUT[0x67]` (R80). -/
def execDecLut67 (s : State) : Out := answerLut (decLut 0x67) s

/-- `DEC_LUT[0x68]` (R80). -/
def execDecLut68 (s : State) : Out := answerLut (decLut 0x68) s

/-- `DEC_LUT[0x69]` (R80). -/
def execDecLut69 (s : State) : Out := answerLut (decLut 0x69) s

/-- `DEC_LUT[0x6A]` (R80). -/
def execDecLut6A (s : State) : Out := answerLut (decLut 0x6A) s

/-- `DEC_LUT[0x6B]` (R80). -/
def execDecLut6B (s : State) : Out := answerLut (decLut 0x6B) s

/-- `DEC_LUT[0x6C]` (R80). -/
def execDecLut6C (s : State) : Out := answerLut (decLut 0x6C) s

/-- `DEC_LUT[0x6D]` (R80). -/
def execDecLut6D (s : State) : Out := answerLut (decLut 0x6D) s

/-- `DEC_LUT[0x6E]` (R80). -/
def execDecLut6E (s : State) : Out := answerLut (decLut 0x6E) s

/-- `DEC_LUT[0x6F]` (R80). -/
def execDecLut6F (s : State) : Out := answerLut (decLut 0x6F) s

/-- `DEC_LUT[0x70]` (R80). -/
def execDecLut70 (s : State) : Out := answerLut (decLut 0x70) s

/-- `DEC_LUT[0x71]` (R80). -/
def execDecLut71 (s : State) : Out := answerLut (decLut 0x71) s

/-- `DEC_LUT[0x72]` (R80). -/
def execDecLut72 (s : State) : Out := answerLut (decLut 0x72) s

/-- `DEC_LUT[0x73]` (R80). -/
def execDecLut73 (s : State) : Out := answerLut (decLut 0x73) s

/-- `DEC_LUT[0x74]` (R80). -/
def execDecLut74 (s : State) : Out := answerLut (decLut 0x74) s

/-- `DEC_LUT[0x75]` (R80). -/
def execDecLut75 (s : State) : Out := answerLut (decLut 0x75) s

/-- `DEC_LUT[0x76]` (R80). -/
def execDecLut76 (s : State) : Out := answerLut (decLut 0x76) s

/-- `DEC_LUT[0x77]` (R80). -/
def execDecLut77 (s : State) : Out := answerLut (decLut 0x77) s

/-- `DEC_LUT[0x78]` (R80). -/
def execDecLut78 (s : State) : Out := answerLut (decLut 0x78) s

/-- `DEC_LUT[0x79]` (R80). -/
def execDecLut79 (s : State) : Out := answerLut (decLut 0x79) s

/-- `DEC_LUT[0x7A]` (R80). -/
def execDecLut7A (s : State) : Out := answerLut (decLut 0x7A) s

/-- `DEC_LUT[0x7B]` (R80). -/
def execDecLut7B (s : State) : Out := answerLut (decLut 0x7B) s

/-- `DEC_LUT[0x7C]` (R80). -/
def execDecLut7C (s : State) : Out := answerLut (decLut 0x7C) s

/-- `DEC_LUT[0x7D]` (R80). -/
def execDecLut7D (s : State) : Out := answerLut (decLut 0x7D) s

/-- `DEC_LUT[0x7E]` (R80). -/
def execDecLut7E (s : State) : Out := answerLut (decLut 0x7E) s

/-- `DEC_LUT[0x7F]` (R80). -/
def execDecLut7F (s : State) : Out := answerLut (decLut 0x7F) s

/-- `DEC_LUT[0x80]` (R80). -/
def execDecLut80 (s : State) : Out := answerLut (decLut 0x80) s

/-- `DEC_LUT[0x81]` (R80). -/
def execDecLut81 (s : State) : Out := answerLut (decLut 0x81) s

/-- `DEC_LUT[0x82]` (R80). -/
def execDecLut82 (s : State) : Out := answerLut (decLut 0x82) s

/-- `DEC_LUT[0x83]` (R80). -/
def execDecLut83 (s : State) : Out := answerLut (decLut 0x83) s

/-- `DEC_LUT[0x84]` (R80). -/
def execDecLut84 (s : State) : Out := answerLut (decLut 0x84) s

/-- `DEC_LUT[0x85]` (R80). -/
def execDecLut85 (s : State) : Out := answerLut (decLut 0x85) s

/-- `DEC_LUT[0x86]` (R80). -/
def execDecLut86 (s : State) : Out := answerLut (decLut 0x86) s

/-- `DEC_LUT[0x87]` (R80). -/
def execDecLut87 (s : State) : Out := answerLut (decLut 0x87) s

/-- `DEC_LUT[0x88]` (R80). -/
def execDecLut88 (s : State) : Out := answerLut (decLut 0x88) s

/-- `DEC_LUT[0x89]` (R80). -/
def execDecLut89 (s : State) : Out := answerLut (decLut 0x89) s

/-- `DEC_LUT[0x8A]` (R80). -/
def execDecLut8A (s : State) : Out := answerLut (decLut 0x8A) s

/-- `DEC_LUT[0x8B]` (R80). -/
def execDecLut8B (s : State) : Out := answerLut (decLut 0x8B) s

/-- `DEC_LUT[0x8C]` (R80). -/
def execDecLut8C (s : State) : Out := answerLut (decLut 0x8C) s

/-- `DEC_LUT[0x8D]` (R80). -/
def execDecLut8D (s : State) : Out := answerLut (decLut 0x8D) s

/-- `DEC_LUT[0x8E]` (R80). -/
def execDecLut8E (s : State) : Out := answerLut (decLut 0x8E) s

/-- `DEC_LUT[0x8F]` (R80). -/
def execDecLut8F (s : State) : Out := answerLut (decLut 0x8F) s

/-- `DEC_LUT[0x90]` (R80). -/
def execDecLut90 (s : State) : Out := answerLut (decLut 0x90) s

/-- `DEC_LUT[0x91]` (R80). -/
def execDecLut91 (s : State) : Out := answerLut (decLut 0x91) s

/-- `DEC_LUT[0x92]` (R80). -/
def execDecLut92 (s : State) : Out := answerLut (decLut 0x92) s

/-- `DEC_LUT[0x93]` (R80). -/
def execDecLut93 (s : State) : Out := answerLut (decLut 0x93) s

/-- `DEC_LUT[0x94]` (R80). -/
def execDecLut94 (s : State) : Out := answerLut (decLut 0x94) s

/-- `DEC_LUT[0x95]` (R80). -/
def execDecLut95 (s : State) : Out := answerLut (decLut 0x95) s

/-- `DEC_LUT[0x96]` (R80). -/
def execDecLut96 (s : State) : Out := answerLut (decLut 0x96) s

/-- `DEC_LUT[0x97]` (R80). -/
def execDecLut97 (s : State) : Out := answerLut (decLut 0x97) s

/-- `DEC_LUT[0x98]` (R80). -/
def execDecLut98 (s : State) : Out := answerLut (decLut 0x98) s

/-- `DEC_LUT[0x99]` (R80). -/
def execDecLut99 (s : State) : Out := answerLut (decLut 0x99) s

/-- `DEC_LUT[0x9A]` (R80). -/
def execDecLut9A (s : State) : Out := answerLut (decLut 0x9A) s

/-- `DEC_LUT[0x9B]` (R80). -/
def execDecLut9B (s : State) : Out := answerLut (decLut 0x9B) s

/-- `DEC_LUT[0x9C]` (R80). -/
def execDecLut9C (s : State) : Out := answerLut (decLut 0x9C) s

/-- `DEC_LUT[0x9D]` (R80). -/
def execDecLut9D (s : State) : Out := answerLut (decLut 0x9D) s

/-- `DEC_LUT[0x9E]` (R80). -/
def execDecLut9E (s : State) : Out := answerLut (decLut 0x9E) s

/-- `DEC_LUT[0x9F]` (R80). -/
def execDecLut9F (s : State) : Out := answerLut (decLut 0x9F) s

/-- `DEC_LUT[0xA0]` (R80). -/
def execDecLutA0 (s : State) : Out := answerLut (decLut 0xA0) s

/-- `DEC_LUT[0xA1]` (R80). -/
def execDecLutA1 (s : State) : Out := answerLut (decLut 0xA1) s

/-- `DEC_LUT[0xA2]` (R80). -/
def execDecLutA2 (s : State) : Out := answerLut (decLut 0xA2) s

/-- `DEC_LUT[0xA3]` (R80). -/
def execDecLutA3 (s : State) : Out := answerLut (decLut 0xA3) s

/-- `DEC_LUT[0xA4]` (R80). -/
def execDecLutA4 (s : State) : Out := answerLut (decLut 0xA4) s

/-- `DEC_LUT[0xA5]` (R80). -/
def execDecLutA5 (s : State) : Out := answerLut (decLut 0xA5) s

/-- `DEC_LUT[0xA6]` (R80). -/
def execDecLutA6 (s : State) : Out := answerLut (decLut 0xA6) s

/-- `DEC_LUT[0xA7]` (R80). -/
def execDecLutA7 (s : State) : Out := answerLut (decLut 0xA7) s

/-- `DEC_LUT[0xA8]` (R80). -/
def execDecLutA8 (s : State) : Out := answerLut (decLut 0xA8) s

/-- `DEC_LUT[0xA9]` (R80). -/
def execDecLutA9 (s : State) : Out := answerLut (decLut 0xA9) s

/-- `DEC_LUT[0xAA]` (R80). -/
def execDecLutAA (s : State) : Out := answerLut (decLut 0xAA) s

/-- `DEC_LUT[0xAB]` (R80). -/
def execDecLutAB (s : State) : Out := answerLut (decLut 0xAB) s

/-- `DEC_LUT[0xAC]` (R80). -/
def execDecLutAC (s : State) : Out := answerLut (decLut 0xAC) s

/-- `DEC_LUT[0xAD]` (R80). -/
def execDecLutAD (s : State) : Out := answerLut (decLut 0xAD) s

/-- `DEC_LUT[0xAE]` (R80). -/
def execDecLutAE (s : State) : Out := answerLut (decLut 0xAE) s

/-- `DEC_LUT[0xAF]` (R80). -/
def execDecLutAF (s : State) : Out := answerLut (decLut 0xAF) s

/-- `DEC_LUT[0xB0]` (R80). -/
def execDecLutB0 (s : State) : Out := answerLut (decLut 0xB0) s

/-- `DEC_LUT[0xB1]` (R80). -/
def execDecLutB1 (s : State) : Out := answerLut (decLut 0xB1) s

/-- `DEC_LUT[0xB2]` (R80). -/
def execDecLutB2 (s : State) : Out := answerLut (decLut 0xB2) s

/-- `DEC_LUT[0xB3]` (R80). -/
def execDecLutB3 (s : State) : Out := answerLut (decLut 0xB3) s

/-- `DEC_LUT[0xB4]` (R80). -/
def execDecLutB4 (s : State) : Out := answerLut (decLut 0xB4) s

/-- `DEC_LUT[0xB5]` (R80). -/
def execDecLutB5 (s : State) : Out := answerLut (decLut 0xB5) s

/-- `DEC_LUT[0xB6]` (R80). -/
def execDecLutB6 (s : State) : Out := answerLut (decLut 0xB6) s

/-- `DEC_LUT[0xB7]` (R80). -/
def execDecLutB7 (s : State) : Out := answerLut (decLut 0xB7) s

/-- `DEC_LUT[0xB8]` (R80). -/
def execDecLutB8 (s : State) : Out := answerLut (decLut 0xB8) s

/-- `DEC_LUT[0xB9]` (R80). -/
def execDecLutB9 (s : State) : Out := answerLut (decLut 0xB9) s

/-- `DEC_LUT[0xBA]` (R80). -/
def execDecLutBA (s : State) : Out := answerLut (decLut 0xBA) s

/-- `DEC_LUT[0xBB]` (R80). -/
def execDecLutBB (s : State) : Out := answerLut (decLut 0xBB) s

/-- `DEC_LUT[0xBC]` (R80). -/
def execDecLutBC (s : State) : Out := answerLut (decLut 0xBC) s

/-- `DEC_LUT[0xBD]` (R80). -/
def execDecLutBD (s : State) : Out := answerLut (decLut 0xBD) s

/-- `DEC_LUT[0xBE]` (R80). -/
def execDecLutBE (s : State) : Out := answerLut (decLut 0xBE) s

/-- `DEC_LUT[0xBF]` (R80). -/
def execDecLutBF (s : State) : Out := answerLut (decLut 0xBF) s

/-- `DEC_LUT[0xC0]` (R80). -/
def execDecLutC0 (s : State) : Out := answerLut (decLut 0xC0) s

/-- `DEC_LUT[0xC1]` (R80). -/
def execDecLutC1 (s : State) : Out := answerLut (decLut 0xC1) s

/-- `DEC_LUT[0xC2]` (R80). -/
def execDecLutC2 (s : State) : Out := answerLut (decLut 0xC2) s

/-- `DEC_LUT[0xC3]` (R80). -/
def execDecLutC3 (s : State) : Out := answerLut (decLut 0xC3) s

/-- `DEC_LUT[0xC4]` (R80). -/
def execDecLutC4 (s : State) : Out := answerLut (decLut 0xC4) s

/-- `DEC_LUT[0xC5]` (R80). -/
def execDecLutC5 (s : State) : Out := answerLut (decLut 0xC5) s

/-- `DEC_LUT[0xC6]` (R80). -/
def execDecLutC6 (s : State) : Out := answerLut (decLut 0xC6) s

/-- `DEC_LUT[0xC7]` (R80). -/
def execDecLutC7 (s : State) : Out := answerLut (decLut 0xC7) s

/-- `DEC_LUT[0xC8]` (R80). -/
def execDecLutC8 (s : State) : Out := answerLut (decLut 0xC8) s

/-- `DEC_LUT[0xC9]` (R80). -/
def execDecLutC9 (s : State) : Out := answerLut (decLut 0xC9) s

/-- `DEC_LUT[0xCA]` (R80). -/
def execDecLutCA (s : State) : Out := answerLut (decLut 0xCA) s

/-- `DEC_LUT[0xCB]` (R80). -/
def execDecLutCB (s : State) : Out := answerLut (decLut 0xCB) s

/-- `DEC_LUT[0xCC]` (R80). -/
def execDecLutCC (s : State) : Out := answerLut (decLut 0xCC) s

/-- `DEC_LUT[0xCD]` (R80). -/
def execDecLutCD (s : State) : Out := answerLut (decLut 0xCD) s

/-- `DEC_LUT[0xCE]` (R80). -/
def execDecLutCE (s : State) : Out := answerLut (decLut 0xCE) s

/-- `DEC_LUT[0xCF]` (R80). -/
def execDecLutCF (s : State) : Out := answerLut (decLut 0xCF) s

/-- `DEC_LUT[0xD0]` (R80). -/
def execDecLutD0 (s : State) : Out := answerLut (decLut 0xD0) s

/-- `DEC_LUT[0xD1]` (R80). -/
def execDecLutD1 (s : State) : Out := answerLut (decLut 0xD1) s

/-- `DEC_LUT[0xD2]` (R80). -/
def execDecLutD2 (s : State) : Out := answerLut (decLut 0xD2) s

/-- `DEC_LUT[0xD3]` (R80). -/
def execDecLutD3 (s : State) : Out := answerLut (decLut 0xD3) s

/-- `DEC_LUT[0xD4]` (R80). -/
def execDecLutD4 (s : State) : Out := answerLut (decLut 0xD4) s

/-- `DEC_LUT[0xD5]` (R80). -/
def execDecLutD5 (s : State) : Out := answerLut (decLut 0xD5) s

/-- `DEC_LUT[0xD6]` (R80). -/
def execDecLutD6 (s : State) : Out := answerLut (decLut 0xD6) s

/-- `DEC_LUT[0xD7]` (R80). -/
def execDecLutD7 (s : State) : Out := answerLut (decLut 0xD7) s

/-- `DEC_LUT[0xD8]` (R80). -/
def execDecLutD8 (s : State) : Out := answerLut (decLut 0xD8) s

/-- `DEC_LUT[0xD9]` (R80). -/
def execDecLutD9 (s : State) : Out := answerLut (decLut 0xD9) s

/-- `DEC_LUT[0xDA]` (R80). -/
def execDecLutDA (s : State) : Out := answerLut (decLut 0xDA) s

/-- `DEC_LUT[0xDB]` (R80). -/
def execDecLutDB (s : State) : Out := answerLut (decLut 0xDB) s

/-- `DEC_LUT[0xDC]` (R80). -/
def execDecLutDC (s : State) : Out := answerLut (decLut 0xDC) s

/-- `DEC_LUT[0xDD]` (R80). -/
def execDecLutDD (s : State) : Out := answerLut (decLut 0xDD) s

/-- `DEC_LUT[0xDE]` (R80). -/
def execDecLutDE (s : State) : Out := answerLut (decLut 0xDE) s

/-- `DEC_LUT[0xDF]` (R80). -/
def execDecLutDF (s : State) : Out := answerLut (decLut 0xDF) s

/-- `DEC_LUT[0xE0]` (R80). -/
def execDecLutE0 (s : State) : Out := answerLut (decLut 0xE0) s

/-- `DEC_LUT[0xE1]` (R80). -/
def execDecLutE1 (s : State) : Out := answerLut (decLut 0xE1) s

/-- `DEC_LUT[0xE2]` (R80). -/
def execDecLutE2 (s : State) : Out := answerLut (decLut 0xE2) s

/-- `DEC_LUT[0xE3]` (R80). -/
def execDecLutE3 (s : State) : Out := answerLut (decLut 0xE3) s

/-- `DEC_LUT[0xE4]` (R80). -/
def execDecLutE4 (s : State) : Out := answerLut (decLut 0xE4) s

/-- `DEC_LUT[0xE5]` (R80). -/
def execDecLutE5 (s : State) : Out := answerLut (decLut 0xE5) s

/-- `DEC_LUT[0xE6]` (R80). -/
def execDecLutE6 (s : State) : Out := answerLut (decLut 0xE6) s

/-- `DEC_LUT[0xE7]` (R80). -/
def execDecLutE7 (s : State) : Out := answerLut (decLut 0xE7) s

/-- `DEC_LUT[0xE8]` (R80). -/
def execDecLutE8 (s : State) : Out := answerLut (decLut 0xE8) s

/-- `DEC_LUT[0xE9]` (R80). -/
def execDecLutE9 (s : State) : Out := answerLut (decLut 0xE9) s

/-- `DEC_LUT[0xEA]` (R80). -/
def execDecLutEA (s : State) : Out := answerLut (decLut 0xEA) s

/-- `DEC_LUT[0xEB]` (R80). -/
def execDecLutEB (s : State) : Out := answerLut (decLut 0xEB) s

/-- `DEC_LUT[0xEC]` (R80). -/
def execDecLutEC (s : State) : Out := answerLut (decLut 0xEC) s

/-- `DEC_LUT[0xED]` (R80). -/
def execDecLutED (s : State) : Out := answerLut (decLut 0xED) s

/-- `DEC_LUT[0xEE]` (R80). -/
def execDecLutEE (s : State) : Out := answerLut (decLut 0xEE) s

/-- `DEC_LUT[0xEF]` (R80). -/
def execDecLutEF (s : State) : Out := answerLut (decLut 0xEF) s

/-- `DEC_LUT[0xF0]` (R80). -/
def execDecLutF0 (s : State) : Out := answerLut (decLut 0xF0) s

/-- `DEC_LUT[0xF1]` (R80). -/
def execDecLutF1 (s : State) : Out := answerLut (decLut 0xF1) s

/-- `DEC_LUT[0xF2]` (R80). -/
def execDecLutF2 (s : State) : Out := answerLut (decLut 0xF2) s

/-- `DEC_LUT[0xF3]` (R80). -/
def execDecLutF3 (s : State) : Out := answerLut (decLut 0xF3) s

/-- `DEC_LUT[0xF4]` (R80). -/
def execDecLutF4 (s : State) : Out := answerLut (decLut 0xF4) s

/-- `DEC_LUT[0xF5]` (R80). -/
def execDecLutF5 (s : State) : Out := answerLut (decLut 0xF5) s

/-- `DEC_LUT[0xF6]` (R80). -/
def execDecLutF6 (s : State) : Out := answerLut (decLut 0xF6) s

/-- `DEC_LUT[0xF7]` (R80). -/
def execDecLutF7 (s : State) : Out := answerLut (decLut 0xF7) s

/-- `DEC_LUT[0xF8]` (R80). -/
def execDecLutF8 (s : State) : Out := answerLut (decLut 0xF8) s

/-- `DEC_LUT[0xF9]` (R80). -/
def execDecLutF9 (s : State) : Out := answerLut (decLut 0xF9) s

/-- `DEC_LUT[0xFA]` (R80). -/
def execDecLutFA (s : State) : Out := answerLut (decLut 0xFA) s

/-- `DEC_LUT[0xFB]` (R80). -/
def execDecLutFB (s : State) : Out := answerLut (decLut 0xFB) s

/-- `DEC_LUT[0xFC]` (R80). -/
def execDecLutFC (s : State) : Out := answerLut (decLut 0xFC) s

/-- `DEC_LUT[0xFD]` (R80). -/
def execDecLutFD (s : State) : Out := answerLut (decLut 0xFD) s

/-- `DEC_LUT[0xFE]` (R80). -/
def execDecLutFE (s : State) : Out := answerLut (decLut 0xFE) s

/-- `DEC_LUT[0xFF]` (R80). -/
def execDecLutFF (s : State) : Out := answerLut (decLut 0xFF) s

end Sys2Proof.Machine
end

