-- ==== Sys2Proof/Machine/EncLut.lean ====
section
/-! DEFINITION. The meanings of the 64 rows `ENC_LUT[i]` (30_encoding.md R76): a read of the alphabet table at the
6-bit index of the row. A read changes nothing the spec names (20_memory.md R54); its answer, one 8-bit entry (R53),
is returned in the model's own field `lutData` (log 9). -/

namespace Sys2Proof.Machine

/-- `ENC_LUT[0]` (R76). -/
def execEncLut0 (s : State) : Out := answerLut (encLut 0) s

/-- `ENC_LUT[1]` (R76). -/
def execEncLut1 (s : State) : Out := answerLut (encLut 1) s

/-- `ENC_LUT[2]` (R76). -/
def execEncLut2 (s : State) : Out := answerLut (encLut 2) s

/-- `ENC_LUT[3]` (R76). -/
def execEncLut3 (s : State) : Out := answerLut (encLut 3) s

/-- `ENC_LUT[4]` (R76). -/
def execEncLut4 (s : State) : Out := answerLut (encLut 4) s

/-- `ENC_LUT[5]` (R76). -/
def execEncLut5 (s : State) : Out := answerLut (encLut 5) s

/-- `ENC_LUT[6]` (R76). -/
def execEncLut6 (s : State) : Out := answerLut (encLut 6) s

/-- `ENC_LUT[7]` (R76). -/
def execEncLut7 (s : State) : Out := answerLut (encLut 7) s

/-- `ENC_LUT[8]` (R76). -/
def execEncLut8 (s : State) : Out := answerLut (encLut 8) s

/-- `ENC_LUT[9]` (R76). -/
def execEncLut9 (s : State) : Out := answerLut (encLut 9) s

/-- `ENC_LUT[10]` (R76). -/
def execEncLut10 (s : State) : Out := answerLut (encLut 10) s

/-- `ENC_LUT[11]` (R76). -/
def execEncLut11 (s : State) : Out := answerLut (encLut 11) s

/-- `ENC_LUT[12]` (R76). -/
def execEncLut12 (s : State) : Out := answerLut (encLut 12) s

/-- `ENC_LUT[13]` (R76). -/
def execEncLut13 (s : State) : Out := answerLut (encLut 13) s

/-- `ENC_LUT[14]` (R76). -/
def execEncLut14 (s : State) : Out := answerLut (encLut 14) s

/-- `ENC_LUT[15]` (R76). -/
def execEncLut15 (s : State) : Out := answerLut (encLut 15) s

/-- `ENC_LUT[16]` (R76). -/
def execEncLut16 (s : State) : Out := answerLut (encLut 16) s

/-- `ENC_LUT[17]` (R76). -/
def execEncLut17 (s : State) : Out := answerLut (encLut 17) s

/-- `ENC_LUT[18]` (R76). -/
def execEncLut18 (s : State) : Out := answerLut (encLut 18) s

/-- `ENC_LUT[19]` (R76). -/
def execEncLut19 (s : State) : Out := answerLut (encLut 19) s

/-- `ENC_LUT[20]` (R76). -/
def execEncLut20 (s : State) : Out := answerLut (encLut 20) s

/-- `ENC_LUT[21]` (R76). -/
def execEncLut21 (s : State) : Out := answerLut (encLut 21) s

/-- `ENC_LUT[22]` (R76). -/
def execEncLut22 (s : State) : Out := answerLut (encLut 22) s

/-- `ENC_LUT[23]` (R76). -/
def execEncLut23 (s : State) : Out := answerLut (encLut 23) s

/-- `ENC_LUT[24]` (R76). -/
def execEncLut24 (s : State) : Out := answerLut (encLut 24) s

/-- `ENC_LUT[25]` (R76). -/
def execEncLut25 (s : State) : Out := answerLut (encLut 25) s

/-- `ENC_LUT[26]` (R76). -/
def execEncLut26 (s : State) : Out := answerLut (encLut 26) s

/-- `ENC_LUT[27]` (R76). -/
def execEncLut27 (s : State) : Out := answerLut (encLut 27) s

/-- `ENC_LUT[28]` (R76). -/
def execEncLut28 (s : State) : Out := answerLut (encLut 28) s

/-- `ENC_LUT[29]` (R76). -/
def execEncLut29 (s : State) : Out := answerLut (encLut 29) s

/-- `ENC_LUT[30]` (R76). -/
def execEncLut30 (s : State) : Out := answerLut (encLut 30) s

/-- `ENC_LUT[31]` (R76). -/
def execEncLut31 (s : State) : Out := answerLut (encLut 31) s

/-- `ENC_LUT[32]` (R76). -/
def execEncLut32 (s : State) : Out := answerLut (encLut 32) s

/-- `ENC_LUT[33]` (R76). -/
def execEncLut33 (s : State) : Out := answerLut (encLut 33) s

/-- `ENC_LUT[34]` (R76). -/
def execEncLut34 (s : State) : Out := answerLut (encLut 34) s

/-- `ENC_LUT[35]` (R76). -/
def execEncLut35 (s : State) : Out := answerLut (encLut 35) s

/-- `ENC_LUT[36]` (R76). -/
def execEncLut36 (s : State) : Out := answerLut (encLut 36) s

/-- `ENC_LUT[37]` (R76). -/
def execEncLut37 (s : State) : Out := answerLut (encLut 37) s

/-- `ENC_LUT[38]` (R76). -/
def execEncLut38 (s : State) : Out := answerLut (encLut 38) s

/-- `ENC_LUT[39]` (R76). -/
def execEncLut39 (s : State) : Out := answerLut (encLut 39) s

/-- `ENC_LUT[40]` (R76). -/
def execEncLut40 (s : State) : Out := answerLut (encLut 40) s

/-- `ENC_LUT[41]` (R76). -/
def execEncLut41 (s : State) : Out := answerLut (encLut 41) s

/-- `ENC_LUT[42]` (R76). -/
def execEncLut42 (s : State) : Out := answerLut (encLut 42) s

/-- `ENC_LUT[43]` (R76). -/
def execEncLut43 (s : State) : Out := answerLut (encLut 43) s

/-- `ENC_LUT[44]` (R76). -/
def execEncLut44 (s : State) : Out := answerLut (encLut 44) s

/-- `ENC_LUT[45]` (R76). -/
def execEncLut45 (s : State) : Out := answerLut (encLut 45) s

/-- `ENC_LUT[46]` (R76). -/
def execEncLut46 (s : State) : Out := answerLut (encLut 46) s

/-- `ENC_LUT[47]` (R76). -/
def execEncLut47 (s : State) : Out := answerLut (encLut 47) s

/-- `ENC_LUT[48]` (R76). -/
def execEncLut48 (s : State) : Out := answerLut (encLut 48) s

/-- `ENC_LUT[49]` (R76). -/
def execEncLut49 (s : State) : Out := answerLut (encLut 49) s

/-- `ENC_LUT[50]` (R76). -/
def execEncLut50 (s : State) : Out := answerLut (encLut 50) s

/-- `ENC_LUT[51]` (R76). -/
def execEncLut51 (s : State) : Out := answerLut (encLut 51) s

/-- `ENC_LUT[52]` (R76). -/
def execEncLut52 (s : State) : Out := answerLut (encLut 52) s

/-- `ENC_LUT[53]` (R76). -/
def execEncLut53 (s : State) : Out := answerLut (encLut 53) s

/-- `ENC_LUT[54]` (R76). -/
def execEncLut54 (s : State) : Out := answerLut (encLut 54) s

/-- `ENC_LUT[55]` (R76). -/
def execEncLut55 (s : State) : Out := answerLut (encLut 55) s

/-- `ENC_LUT[56]` (R76). -/
def execEncLut56 (s : State) : Out := answerLut (encLut 56) s

/-- `ENC_LUT[57]` (R76). -/
def execEncLut57 (s : State) : Out := answerLut (encLut 57) s

/-- `ENC_LUT[58]` (R76). -/
def execEncLut58 (s : State) : Out := answerLut (encLut 58) s

/-- `ENC_LUT[59]` (R76). -/
def execEncLut59 (s : State) : Out := answerLut (encLut 59) s

/-- `ENC_LUT[60]` (R76). -/
def execEncLut60 (s : State) : Out := answerLut (encLut 60) s

/-- `ENC_LUT[61]` (R76). -/
def execEncLut61 (s : State) : Out := answerLut (encLut 61) s

/-- `ENC_LUT[62]` (R76). -/
def execEncLut62 (s : State) : Out := answerLut (encLut 62) s

/-- `ENC_LUT[63]` (R76). -/
def execEncLut63 (s : State) : Out := answerLut (encLut 63) s

end Sys2Proof.Machine
end

