-- ==== Sys2Proof/Machine/Dispatch.lean ====
section
/-! DEFINITION. One arm per constructor of Instr, each one direct call of its meaning. -/

namespace Sys2Proof.Machine

def exec (i : Instr) (s : State) : Host.Outcome State Fault Refusal :=
  match i with
  | .encStart len => Sys2Proof.Machine.execEncStart len s
  | .decStart len => Sys2Proof.Machine.execDecStart len s
  | .encodeOp len => Sys2Proof.Machine.execEncodeOp len s
  | .decodeOp len => Sys2Proof.Machine.execDecodeOp len s
  | .encSym0 => Sys2Proof.Machine.execEncSym0 s
  | .encSym1 => Sys2Proof.Machine.execEncSym1 s
  | .encSym2 => Sys2Proof.Machine.execEncSym2 s
  | .encSym3 => Sys2Proof.Machine.execEncSym3 s
  | .encPad2 => Sys2Proof.Machine.execEncPad2 s
  | .encPad3 => Sys2Proof.Machine.execEncPad3 s
  | .encFinish => Sys2Proof.Machine.execEncFinish s
  | .decCheck => Sys2Proof.Machine.execDecCheck s
  | .decScanVal => Sys2Proof.Machine.execDecScanVal s
  | .decScanPad => Sys2Proof.Machine.execDecScanPad s
  | .decScanInv => Sys2Proof.Machine.execDecScanInv s
  | .decScanEnd => Sys2Proof.Machine.execDecScanEnd s
  | .decRepackG3 => Sys2Proof.Machine.execDecRepackG3 s
  | .decRepackG2 => Sys2Proof.Machine.execDecRepackG2 s
  | .decRepackG1 => Sys2Proof.Machine.execDecRepackG1 s
  | .decFinish => Sys2Proof.Machine.execDecFinish s
  | .reset => Sys2Proof.Machine.execReset s
  | .encLut0 => Sys2Proof.Machine.execEncLut0 s
  | .encLut1 => Sys2Proof.Machine.execEncLut1 s
  | .encLut2 => Sys2Proof.Machine.execEncLut2 s
  | .encLut3 => Sys2Proof.Machine.execEncLut3 s
  | .encLut4 => Sys2Proof.Machine.execEncLut4 s
  | .encLut5 => Sys2Proof.Machine.execEncLut5 s
  | .encLut6 => Sys2Proof.Machine.execEncLut6 s
  | .encLut7 => Sys2Proof.Machine.execEncLut7 s
  | .encLut8 => Sys2Proof.Machine.execEncLut8 s
  | .encLut9 => Sys2Proof.Machine.execEncLut9 s
  | .encLut10 => Sys2Proof.Machine.execEncLut10 s
  | .encLut11 => Sys2Proof.Machine.execEncLut11 s
  | .encLut12 => Sys2Proof.Machine.execEncLut12 s
  | .encLut13 => Sys2Proof.Machine.execEncLut13 s
  | .encLut14 => Sys2Proof.Machine.execEncLut14 s
  | .encLut15 => Sys2Proof.Machine.execEncLut15 s
  | .encLut16 => Sys2Proof.Machine.execEncLut16 s
  | .encLut17 => Sys2Proof.Machine.execEncLut17 s
  | .encLut18 => Sys2Proof.Machine.execEncLut18 s
  | .encLut19 => Sys2Proof.Machine.execEncLut19 s
  | .encLut20 => Sys2Proof.Machine.execEncLut20 s
  | .encLut21 => Sys2Proof.Machine.execEncLut21 s
  | .encLut22 => Sys2Proof.Machine.execEncLut22 s
  | .encLut23 => Sys2Proof.Machine.execEncLut23 s
  | .encLut24 => Sys2Proof.Machine.execEncLut24 s
  | .encLut25 => Sys2Proof.Machine.execEncLut25 s
  | .encLut26 => Sys2Proof.Machine.execEncLut26 s
  | .encLut27 => Sys2Proof.Machine.execEncLut27 s
  | .encLut28 => Sys2Proof.Machine.execEncLut28 s
  | .encLut29 => Sys2Proof.Machine.execEncLut29 s
  | .encLut30 => Sys2Proof.Machine.execEncLut30 s
  | .encLut31 => Sys2Proof.Machine.execEncLut31 s
  | .encLut32 => Sys2Proof.Machine.execEncLut32 s
  | .encLut33 => Sys2Proof.Machine.execEncLut33 s
  | .encLut34 => Sys2Proof.Machine.execEncLut34 s
  | .encLut35 => Sys2Proof.Machine.execEncLut35 s
  | .encLut36 => Sys2Proof.Machine.execEncLut36 s
  | .encLut37 => Sys2Proof.Machine.execEncLut37 s
  | .encLut38 => Sys2Proof.Machine.execEncLut38 s
  | .encLut39 => Sys2Proof.Machine.execEncLut39 s
  | .encLut40 => Sys2Proof.Machine.execEncLut40 s
  | .encLut41 => Sys2Proof.Machine.execEncLut41 s
  | .encLut42 => Sys2Proof.Machine.execEncLut42 s
  | .encLut43 => Sys2Proof.Machine.execEncLut43 s
  | .encLut44 => Sys2Proof.Machine.execEncLut44 s
  | .encLut45 => Sys2Proof.Machine.execEncLut45 s
  | .encLut46 => Sys2Proof.Machine.execEncLut46 s
  | .encLut47 => Sys2Proof.Machine.execEncLut47 s
  | .encLut48 => Sys2Proof.Machine.execEncLut48 s
  | .encLut49 => Sys2Proof.Machine.execEncLut49 s
  | .encLut50 => Sys2Proof.Machine.execEncLut50 s
  | .encLut51 => Sys2Proof.Machine.execEncLut51 s
  | .encLut52 => Sys2Proof.Machine.execEncLut52 s
  | .encLut53 => Sys2Proof.Machine.execEncLut53 s
  | .encLut54 => Sys2Proof.Machine.execEncLut54 s
  | .encLut55 => Sys2Proof.Machine.execEncLut55 s
  | .encLut56 => Sys2Proof.Machine.execEncLut56 s
  | .encLut57 => Sys2Proof.Machine.execEncLut57 s
  | .encLut58 => Sys2Proof.Machine.execEncLut58 s
  | .encLut59 => Sys2Proof.Machine.execEncLut59 s
  | .encLut60 => Sys2Proof.Machine.execEncLut60 s
  | .encLut61 => Sys2Proof.Machine.execEncLut61 s
  | .encLut62 => Sys2Proof.Machine.execEncLut62 s
  | .encLut63 => Sys2Proof.Machine.execEncLut63 s
  | .decLut00 => Sys2Proof.Machine.execDecLut00 s
  | .decLut01 => Sys2Proof.Machine.execDecLut01 s
  | .decLut02 => Sys2Proof.Machine.execDecLut02 s
  | .decLut03 => Sys2Proof.Machine.execDecLut03 s
  | .decLut04 => Sys2Proof.Machine.execDecLut04 s
  | .decLut05 => Sys2Proof.Machine.execDecLut05 s
  | .decLut06 => Sys2Proof.Machine.execDecLut06 s
  | .decLut07 => Sys2Proof.Machine.execDecLut07 s
  | .decLut08 => Sys2Proof.Machine.execDecLut08 s
  | .decLut09 => Sys2Proof.Machine.execDecLut09 s
  | .decLut0A => Sys2Proof.Machine.execDecLut0A s
  | .decLut0B => Sys2Proof.Machine.execDecLut0B s
  | .decLut0C => Sys2Proof.Machine.execDecLut0C s
  | .decLut0D => Sys2Proof.Machine.execDecLut0D s
  | .decLut0E => Sys2Proof.Machine.execDecLut0E s
  | .decLut0F => Sys2Proof.Machine.execDecLut0F s
  | .decLut10 => Sys2Proof.Machine.execDecLut10 s
  | .decLut11 => Sys2Proof.Machine.execDecLut11 s
  | .decLut12 => Sys2Proof.Machine.execDecLut12 s
  | .decLut13 => Sys2Proof.Machine.execDecLut13 s
  | .decLut14 => Sys2Proof.Machine.execDecLut14 s
  | .decLut15 => Sys2Proof.Machine.execDecLut15 s
  | .decLut16 => Sys2Proof.Machine.execDecLut16 s
  | .decLut17 => Sys2Proof.Machine.execDecLut17 s
  | .decLut18 => Sys2Proof.Machine.execDecLut18 s
  | .decLut19 => Sys2Proof.Machine.execDecLut19 s
  | .decLut1A => Sys2Proof.Machine.execDecLut1A s
  | .decLut1B => Sys2Proof.Machine.execDecLut1B s
  | .decLut1C => Sys2Proof.Machine.execDecLut1C s
  | .decLut1D => Sys2Proof.Machine.execDecLut1D s
  | .decLut1E => Sys2Proof.Machine.execDecLut1E s
  | .decLut1F => Sys2Proof.Machine.execDecLut1F s
  | .decLut20 => Sys2Proof.Machine.execDecLut20 s
  | .decLut21 => Sys2Proof.Machine.execDecLut21 s
  | .decLut22 => Sys2Proof.Machine.execDecLut22 s
  | .decLut23 => Sys2Proof.Machine.execDecLut23 s
  | .decLut24 => Sys2Proof.Machine.execDecLut24 s
  | .decLut25 => Sys2Proof.Machine.execDecLut25 s
  | .decLut26 => Sys2Proof.Machine.execDecLut26 s
  | .decLut27 => Sys2Proof.Machine.execDecLut27 s
  | .decLut28 => Sys2Proof.Machine.execDecLut28 s
  | .decLut29 => Sys2Proof.Machine.execDecLut29 s
  | .decLut2A => Sys2Proof.Machine.execDecLut2A s
  | .decLut2B => Sys2Proof.Machine.execDecLut2B s
  | .decLut2C => Sys2Proof.Machine.execDecLut2C s
  | .decLut2D => Sys2Proof.Machine.execDecLut2D s
  | .decLut2E => Sys2Proof.Machine.execDecLut2E s
  | .decLut2F => Sys2Proof.Machine.execDecLut2F s
  | .decLut30 => Sys2Proof.Machine.execDecLut30 s
  | .decLut31 => Sys2Proof.Machine.execDecLut31 s
  | .decLut32 => Sys2Proof.Machine.execDecLut32 s
  | .decLut33 => Sys2Proof.Machine.execDecLut33 s
  | .decLut34 => Sys2Proof.Machine.execDecLut34 s
  | .decLut35 => Sys2Proof.Machine.execDecLut35 s
  | .decLut36 => Sys2Proof.Machine.execDecLut36 s
  | .decLut37 => Sys2Proof.Machine.execDecLut37 s
  | .decLut38 => Sys2Proof.Machine.execDecLut38 s
  | .decLut39 => Sys2Proof.Machine.execDecLut39 s
  | .decLut3A => Sys2Proof.Machine.execDecLut3A s
  | .decLut3B => Sys2Proof.Machine.execDecLut3B s
  | .decLut3C => Sys2Proof.Machine.execDecLut3C s
  | .decLut3D => Sys2Proof.Machine.execDecLut3D s
  | .decLut3E => Sys2Proof.Machine.execDecLut3E s
  | .decLut3F => Sys2Proof.Machine.execDecLut3F s
  | .decLut40 => Sys2Proof.Machine.execDecLut40 s
  | .decLut41 => Sys2Proof.Machine.execDecLut41 s
  | .decLut42 => Sys2Proof.Machine.execDecLut42 s
  | .decLut43 => Sys2Proof.Machine.execDecLut43 s
  | .decLut44 => Sys2Proof.Machine.execDecLut44 s
  | .decLut45 => Sys2Proof.Machine.execDecLut45 s
  | .decLut46 => Sys2Proof.Machine.execDecLut46 s
  | .decLut47 => Sys2Proof.Machine.execDecLut47 s
  | .decLut48 => Sys2Proof.Machine.execDecLut48 s
  | .decLut49 => Sys2Proof.Machine.execDecLut49 s
  | .decLut4A => Sys2Proof.Machine.execDecLut4A s
  | .decLut4B => Sys2Proof.Machine.execDecLut4B s
  | .decLut4C => Sys2Proof.Machine.execDecLut4C s
  | .decLut4D => Sys2Proof.Machine.execDecLut4D s
  | .decLut4E => Sys2Proof.Machine.execDecLut4E s
  | .decLut4F => Sys2Proof.Machine.execDecLut4F s
  | .decLut50 => Sys2Proof.Machine.execDecLut50 s
  | .decLut51 => Sys2Proof.Machine.execDecLut51 s
  | .decLut52 => Sys2Proof.Machine.execDecLut52 s
  | .decLut53 => Sys2Proof.Machine.execDecLut53 s
  | .decLut54 => Sys2Proof.Machine.execDecLut54 s
  | .decLut55 => Sys2Proof.Machine.execDecLut55 s
  | .decLut56 => Sys2Proof.Machine.execDecLut56 s
  | .decLut57 => Sys2Proof.Machine.execDecLut57 s
  | .decLut58 => Sys2Proof.Machine.execDecLut58 s
  | .decLut59 => Sys2Proof.Machine.execDecLut59 s
  | .decLut5A => Sys2Proof.Machine.execDecLut5A s
  | .decLut5B => Sys2Proof.Machine.execDecLut5B s
  | .decLut5C => Sys2Proof.Machine.execDecLut5C s
  | .decLut5D => Sys2Proof.Machine.execDecLut5D s
  | .decLut5E => Sys2Proof.Machine.execDecLut5E s
  | .decLut5F => Sys2Proof.Machine.execDecLut5F s
  | .decLut60 => Sys2Proof.Machine.execDecLut60 s
  | .decLut61 => Sys2Proof.Machine.execDecLut61 s
  | .decLut62 => Sys2Proof.Machine.execDecLut62 s
  | .decLut63 => Sys2Proof.Machine.execDecLut63 s
  | .decLut64 => Sys2Proof.Machine.execDecLut64 s
  | .decLut65 => Sys2Proof.Machine.execDecLut65 s
  | .decLut66 => Sys2Proof.Machine.execDecLut66 s
  | .decLut67 => Sys2Proof.Machine.execDecLut67 s
  | .decLut68 => Sys2Proof.Machine.execDecLut68 s
  | .decLut69 => Sys2Proof.Machine.execDecLut69 s
  | .decLut6A => Sys2Proof.Machine.execDecLut6A s
  | .decLut6B => Sys2Proof.Machine.execDecLut6B s
  | .decLut6C => Sys2Proof.Machine.execDecLut6C s
  | .decLut6D => Sys2Proof.Machine.execDecLut6D s
  | .decLut6E => Sys2Proof.Machine.execDecLut6E s
  | .decLut6F => Sys2Proof.Machine.execDecLut6F s
  | .decLut70 => Sys2Proof.Machine.execDecLut70 s
  | .decLut71 => Sys2Proof.Machine.execDecLut71 s
  | .decLut72 => Sys2Proof.Machine.execDecLut72 s
  | .decLut73 => Sys2Proof.Machine.execDecLut73 s
  | .decLut74 => Sys2Proof.Machine.execDecLut74 s
  | .decLut75 => Sys2Proof.Machine.execDecLut75 s
  | .decLut76 => Sys2Proof.Machine.execDecLut76 s
  | .decLut77 => Sys2Proof.Machine.execDecLut77 s
  | .decLut78 => Sys2Proof.Machine.execDecLut78 s
  | .decLut79 => Sys2Proof.Machine.execDecLut79 s
  | .decLut7A => Sys2Proof.Machine.execDecLut7A s
  | .decLut7B => Sys2Proof.Machine.execDecLut7B s
  | .decLut7C => Sys2Proof.Machine.execDecLut7C s
  | .decLut7D => Sys2Proof.Machine.execDecLut7D s
  | .decLut7E => Sys2Proof.Machine.execDecLut7E s
  | .decLut7F => Sys2Proof.Machine.execDecLut7F s
  | .decLut80 => Sys2Proof.Machine.execDecLut80 s
  | .decLut81 => Sys2Proof.Machine.execDecLut81 s
  | .decLut82 => Sys2Proof.Machine.execDecLut82 s
  | .decLut83 => Sys2Proof.Machine.execDecLut83 s
  | .decLut84 => Sys2Proof.Machine.execDecLut84 s
  | .decLut85 => Sys2Proof.Machine.execDecLut85 s
  | .decLut86 => Sys2Proof.Machine.execDecLut86 s
  | .decLut87 => Sys2Proof.Machine.execDecLut87 s
  | .decLut88 => Sys2Proof.Machine.execDecLut88 s
  | .decLut89 => Sys2Proof.Machine.execDecLut89 s
  | .decLut8A => Sys2Proof.Machine.execDecLut8A s
  | .decLut8B => Sys2Proof.Machine.execDecLut8B s
  | .decLut8C => Sys2Proof.Machine.execDecLut8C s
  | .decLut8D => Sys2Proof.Machine.execDecLut8D s
  | .decLut8E => Sys2Proof.Machine.execDecLut8E s
  | .decLut8F => Sys2Proof.Machine.execDecLut8F s
  | .decLut90 => Sys2Proof.Machine.execDecLut90 s
  | .decLut91 => Sys2Proof.Machine.execDecLut91 s
  | .decLut92 => Sys2Proof.Machine.execDecLut92 s
  | .decLut93 => Sys2Proof.Machine.execDecLut93 s
  | .decLut94 => Sys2Proof.Machine.execDecLut94 s
  | .decLut95 => Sys2Proof.Machine.execDecLut95 s
  | .decLut96 => Sys2Proof.Machine.execDecLut96 s
  | .decLut97 => Sys2Proof.Machine.execDecLut97 s
  | .decLut98 => Sys2Proof.Machine.execDecLut98 s
  | .decLut99 => Sys2Proof.Machine.execDecLut99 s
  | .decLut9A => Sys2Proof.Machine.execDecLut9A s
  | .decLut9B => Sys2Proof.Machine.execDecLut9B s
  | .decLut9C => Sys2Proof.Machine.execDecLut9C s
  | .decLut9D => Sys2Proof.Machine.execDecLut9D s
  | .decLut9E => Sys2Proof.Machine.execDecLut9E s
  | .decLut9F => Sys2Proof.Machine.execDecLut9F s
  | .decLutA0 => Sys2Proof.Machine.execDecLutA0 s
  | .decLutA1 => Sys2Proof.Machine.execDecLutA1 s
  | .decLutA2 => Sys2Proof.Machine.execDecLutA2 s
  | .decLutA3 => Sys2Proof.Machine.execDecLutA3 s
  | .decLutA4 => Sys2Proof.Machine.execDecLutA4 s
  | .decLutA5 => Sys2Proof.Machine.execDecLutA5 s
  | .decLutA6 => Sys2Proof.Machine.execDecLutA6 s
  | .decLutA7 => Sys2Proof.Machine.execDecLutA7 s
  | .decLutA8 => Sys2Proof.Machine.execDecLutA8 s
  | .decLutA9 => Sys2Proof.Machine.execDecLutA9 s
  | .decLutAA => Sys2Proof.Machine.execDecLutAA s
  | .decLutAB => Sys2Proof.Machine.execDecLutAB s
  | .decLutAC => Sys2Proof.Machine.execDecLutAC s
  | .decLutAD => Sys2Proof.Machine.execDecLutAD s
  | .decLutAE => Sys2Proof.Machine.execDecLutAE s
  | .decLutAF => Sys2Proof.Machine.execDecLutAF s
  | .decLutB0 => Sys2Proof.Machine.execDecLutB0 s
  | .decLutB1 => Sys2Proof.Machine.execDecLutB1 s
  | .decLutB2 => Sys2Proof.Machine.execDecLutB2 s
  | .decLutB3 => Sys2Proof.Machine.execDecLutB3 s
  | .decLutB4 => Sys2Proof.Machine.execDecLutB4 s
  | .decLutB5 => Sys2Proof.Machine.execDecLutB5 s
  | .decLutB6 => Sys2Proof.Machine.execDecLutB6 s
  | .decLutB7 => Sys2Proof.Machine.execDecLutB7 s
  | .decLutB8 => Sys2Proof.Machine.execDecLutB8 s
  | .decLutB9 => Sys2Proof.Machine.execDecLutB9 s
  | .decLutBA => Sys2Proof.Machine.execDecLutBA s
  | .decLutBB => Sys2Proof.Machine.execDecLutBB s
  | .decLutBC => Sys2Proof.Machine.execDecLutBC s
  | .decLutBD => Sys2Proof.Machine.execDecLutBD s
  | .decLutBE => Sys2Proof.Machine.execDecLutBE s
  | .decLutBF => Sys2Proof.Machine.execDecLutBF s
  | .decLutC0 => Sys2Proof.Machine.execDecLutC0 s
  | .decLutC1 => Sys2Proof.Machine.execDecLutC1 s
  | .decLutC2 => Sys2Proof.Machine.execDecLutC2 s
  | .decLutC3 => Sys2Proof.Machine.execDecLutC3 s
  | .decLutC4 => Sys2Proof.Machine.execDecLutC4 s
  | .decLutC5 => Sys2Proof.Machine.execDecLutC5 s
  | .decLutC6 => Sys2Proof.Machine.execDecLutC6 s
  | .decLutC7 => Sys2Proof.Machine.execDecLutC7 s
  | .decLutC8 => Sys2Proof.Machine.execDecLutC8 s
  | .decLutC9 => Sys2Proof.Machine.execDecLutC9 s
  | .decLutCA => Sys2Proof.Machine.execDecLutCA s
  | .decLutCB => Sys2Proof.Machine.execDecLutCB s
  | .decLutCC => Sys2Proof.Machine.execDecLutCC s
  | .decLutCD => Sys2Proof.Machine.execDecLutCD s
  | .decLutCE => Sys2Proof.Machine.execDecLutCE s
  | .decLutCF => Sys2Proof.Machine.execDecLutCF s
  | .decLutD0 => Sys2Proof.Machine.execDecLutD0 s
  | .decLutD1 => Sys2Proof.Machine.execDecLutD1 s
  | .decLutD2 => Sys2Proof.Machine.execDecLutD2 s
  | .decLutD3 => Sys2Proof.Machine.execDecLutD3 s
  | .decLutD4 => Sys2Proof.Machine.execDecLutD4 s
  | .decLutD5 => Sys2Proof.Machine.execDecLutD5 s
  | .decLutD6 => Sys2Proof.Machine.execDecLutD6 s
  | .decLutD7 => Sys2Proof.Machine.execDecLutD7 s
  | .decLutD8 => Sys2Proof.Machine.execDecLutD8 s
  | .decLutD9 => Sys2Proof.Machine.execDecLutD9 s
  | .decLutDA => Sys2Proof.Machine.execDecLutDA s
  | .decLutDB => Sys2Proof.Machine.execDecLutDB s
  | .decLutDC => Sys2Proof.Machine.execDecLutDC s
  | .decLutDD => Sys2Proof.Machine.execDecLutDD s
  | .decLutDE => Sys2Proof.Machine.execDecLutDE s
  | .decLutDF => Sys2Proof.Machine.execDecLutDF s
  | .decLutE0 => Sys2Proof.Machine.execDecLutE0 s
  | .decLutE1 => Sys2Proof.Machine.execDecLutE1 s
  | .decLutE2 => Sys2Proof.Machine.execDecLutE2 s
  | .decLutE3 => Sys2Proof.Machine.execDecLutE3 s
  | .decLutE4 => Sys2Proof.Machine.execDecLutE4 s
  | .decLutE5 => Sys2Proof.Machine.execDecLutE5 s
  | .decLutE6 => Sys2Proof.Machine.execDecLutE6 s
  | .decLutE7 => Sys2Proof.Machine.execDecLutE7 s
  | .decLutE8 => Sys2Proof.Machine.execDecLutE8 s
  | .decLutE9 => Sys2Proof.Machine.execDecLutE9 s
  | .decLutEA => Sys2Proof.Machine.execDecLutEA s
  | .decLutEB => Sys2Proof.Machine.execDecLutEB s
  | .decLutEC => Sys2Proof.Machine.execDecLutEC s
  | .decLutED => Sys2Proof.Machine.execDecLutED s
  | .decLutEE => Sys2Proof.Machine.execDecLutEE s
  | .decLutEF => Sys2Proof.Machine.execDecLutEF s
  | .decLutF0 => Sys2Proof.Machine.execDecLutF0 s
  | .decLutF1 => Sys2Proof.Machine.execDecLutF1 s
  | .decLutF2 => Sys2Proof.Machine.execDecLutF2 s
  | .decLutF3 => Sys2Proof.Machine.execDecLutF3 s
  | .decLutF4 => Sys2Proof.Machine.execDecLutF4 s
  | .decLutF5 => Sys2Proof.Machine.execDecLutF5 s
  | .decLutF6 => Sys2Proof.Machine.execDecLutF6 s
  | .decLutF7 => Sys2Proof.Machine.execDecLutF7 s
  | .decLutF8 => Sys2Proof.Machine.execDecLutF8 s
  | .decLutF9 => Sys2Proof.Machine.execDecLutF9 s
  | .decLutFA => Sys2Proof.Machine.execDecLutFA s
  | .decLutFB => Sys2Proof.Machine.execDecLutFB s
  | .decLutFC => Sys2Proof.Machine.execDecLutFC s
  | .decLutFD => Sys2Proof.Machine.execDecLutFD s
  | .decLutFE => Sys2Proof.Machine.execDecLutFE s
  | .decLutFF => Sys2Proof.Machine.execDecLutFF s

end Sys2Proof.Machine
end

