-- ==== Sys2Proof/Machine/HostPort.lean ====
section
/-! DEFINITION. The host's accesses that are no rows of the operation table (40_commands.md R100): writes of `U.IN`,
reads of the registers, reads of `U.OUT`. -/

namespace Sys2Proof.Machine

/-- Entry `k` of space `sp` stands at an address of space `sp'`. -/
def State.touches (s : State) (sp : Space) (k : Nat) (sp' : Space) : Bool :=
  match s.addrOf sp k with
  | none => false
  | some a => s.placedIn sp' a

/-- A host write of entry `k` of `U.IN`: while the unit is not busy (R100); given no meaning while busy (R228, U7), nor, where
buffers share an address, into a buffer of the other unit while that is busy (R228, R231, U12; log 8, log 18).
The index is any natural that the buffer's capacity allows, also at or above `2^LEN_W`: DESIGN CHOICE (log 2). -/
def hostWriteIn (u : UnitId) (k : Nat) (v : Byte) (s : State) : Out :=
  if busy u s then .refused (.inputWrittenWhileBusy u)
  else if busy (otherUnit u) s && s.touches (inSpace u) k (inSpace (otherUnit u)) then
    .refused (.inputWrittenWhileBusy (otherUnit u))
  else if busy (otherUnit u) s && s.touches (inSpace u) k (outSpace (otherUnit u)) then
    .refused (.overlappingBuffers (otherUnit u))
  else memWrite (inSpace u) k v s .next

/-- A host read of a register, allowed at any time (R100), without side effect (R117). -/
def hostReadReg (u : UnitId) (reg : Fin 4) (s : State) : Out :=
  .next (answerHost (readRegister u reg s) s)

/-- A host read of entry `k` of `U.OUT` sees a result: `done` = 1, and no busy unit writes that entry as its own `OUT`. -/
def State.readable (s : State) (u : UnitId) (k : Nat) : Bool :=
  done u s && !(busy (otherUnit u) s && s.touches (outSpace u) k (outSpace (otherUnit u)))

/-- A host read of entry `k` of `U.OUT`: the entry's byte when `done` = 1 (R100, R61); before, or while the other unit writes
that byte, any byte (R229, U8, log 7). After a failed decode the entry holds what it held before (R197). The index is any
natural that the buffer's capacity allows, also at or above `2^LEN_W`: DESIGN CHOICE (log 2). -/
def hostReadOut (u : UnitId) (k : Nat) (s : State) : Out :=
  if s.readable u k then memRead (outSpace u) k s fun v => .next (answerHost v.toNat s)
  else .next (answerHost (Config.earlyByte s.fresh).toNat s.draw)

/-! ## The platform's addresses (20_memory.md R58) -/

/-- The registers that `CSR_MAP` places at address `a`. -/
def State.registersAt (s : State) (a : Nat) : List Place :=
  (s.csrMap.filter (fun c => c.addr == a)).map (fun c => .reg c.u c.r)

/-- The entry of space `sp` that `BUF_MAP` places at address `a`, if any. -/
def State.entryAt (s : State) (a : Nat) (sp : Space) : List Place :=
  match s.bufMap.window sp with
  | none => []
  | some w => if s.placedIn sp a then [.entry sp (a - w.first)] else []

/-- Every register and entry placed at address `a`. -/
def State.placesAt (s : State) (a : Nat) : List Place :=
  s.registersAt a ++ s.entryAt a .encIn ++ s.entryAt a .encOut ++ s.entryAt a .decIn ++ s.entryAt a .decOut

/-- What a host read of address `a` may mean: an entry of an `OUT` buffer (R100), or, where a register is placed, all that is
placed there. -/
def State.readableAt (s : State) (a : Nat) : List Place :=
  match s.registersAt a with
  | [] => s.entryAt a .encOut ++ s.entryAt a .decOut
  | _ :: _ => s.placesAt a

/-- What a host write of address `a` may mean: an entry of an `IN` buffer (R100), or, where a register is placed, all that is
placed there. -/
def State.writableAt (s : State) (a : Nat) : List Place :=
  match s.registersAt a with
  | [] => s.entryAt a .encIn ++ s.entryAt a .decIn
  | _ :: _ => s.placesAt a

/-- A host read of address `a`: of the one register or `OUT` entry there. Where both `OUT` buffers share the address it is the
result of the encoder if that is done and the decoder's otherwise. Any other read has no meaning (R231; log 18). -/
def hostBusRead (a : Nat) (s : State) : Out :=
  match s.readableAt a with
  | [.reg u r] => hostReadReg u r s
  | [.entry .encOut k] => hostReadOut .enc k s
  | [.entry .decOut k] => hostReadOut .dec k s
  | [.entry .encOut k, .entry .decOut j] => if encDone s then hostReadOut .enc k s else hostReadOut .dec j s
  | _ => .refused (.noSuchBusAccess a)

/-- A host write of one byte through a buffer window at address `a`; wider data is no access of a buffer (R50). -/
def hostBusWriteIn (u : UnitId) (k a w : Nat) (s : State) : Out :=
  if w < 256 then hostWriteIn u k (BitVec.ofNat 8 w) s else .refused (.noSuchBusAccess a)

end Sys2Proof.Machine
end

