-- ==== Sys2Proof/Machine/Fetch.lean ====
section
/-! DEFINITION. What the machine does next: the oldest input of `agenda`, or, when there is none, the next
micro-operation of a busy unit (10_state.md R24, R31; 20_memory.md R62; log 5, log 6). The hardware fetches no
instruction words (R24): the word decoded is the one presented at an input or by a unit's state. -/

namespace Sys2Proof.Machine

/-- What is presented at a step. -/
inductive Fetched where
  /-- A word for the decoder, and the state it is executed in. -/
  | word (p : PortWord) (s : State)
  /-- No operation of the table: the outcome of a host access or of an edge with nothing enabled. -/
  | other (o : Out)

/-- A clock edge of unit `u`: the word its state presents; nothing happens when no step is enabled (R83, R206). -/
def unitEdge (u : UnitId) (s : State) : Fetched :=
  match unitWord u s with
  | .ok (some p) => .word p s
  | .ok none => .other (.next s)
  | .error r => .other (.refused r)

/-- A host write of register `reg` of unit `u`: a CMD word at `CTRL`; a write of a read-only register is ignored (R27 to
R30, U20). -/
def writeRegister (u : UnitId) (reg : Fin 4) (w : Nat) (s : State) : Fetched :=
  if reg = 0 then .word (.ctrl u w) s else .other (.next s)

/-- A host write of address `a`: of the one register or `IN` entry there. Where both `IN` buffers share the address the byte
written is an entry of both. Any other write has no meaning (R231; log 18). -/
def busWritten (a w : Nat) (s : State) : Fetched :=
  match s.writableAt a with
  | [.reg u r] => writeRegister u r w s
  | [.entry .encIn k] => .other (hostBusWriteIn .enc k a w s)
  | [.entry .decIn k] => .other (hostBusWriteIn .dec k a w s)
  | [.entry .encIn k, .entry .decIn _] => .other (hostBusWriteIn .enc k a w s)
  | _ => .other (.refused (.noSuchBusAccess a))

/-- What an input presents. `rst` wins over a START at the same edge (R220). -/
def present (inp : Input) (s : State) : Fetched :=
  match inp with
  | .clk u => unitEdge u s
  | .rst => .word (.rst 1) s
  | .writeReg u reg w rst =>
    if rst then .word (.rst 1) s else writeRegister u reg w s
  | .call u w => .word (.call u w) s
  | .encIndex i => .word (.encIndex i) s
  | .decIndex c => .word (.decIndex c) s
  | .writeIn u k v => .other (hostWriteIn u k v s)
  | .readReg u reg => .other (hostReadReg u reg s)
  | .readOut u k => .other (hostReadOut u k s)
  | .busRead a => .other (hostBusRead a s)
  | .busWrite a w => busWritten a w s

/-- With no input to come a busy unit takes its next step (R234); which of two is a free value (R62, log 6). -/
def freeRun (s : State) : Fetched :=
  if encBusy s then
    if decBusy s then unitEdge (if Config.encoderFirst s.fresh then .enc else .dec) s.draw
    else unitEdge .enc s
  else unitEdge .dec s

/-- What is presented at the next step. -/
def fetch (s : State) : Fetched :=
  match s.agenda with
  | [] => freeRun s
  | inp :: rest => present inp { s with agenda := rest }

/-- The outcome of a word that stands for no operation: `start` = 0 and `rst` = 0 do nothing (R28). -/
def rejected (e : Reject) (s : State) : Out :=
  match e with
  | .startBitZero => .next s
  | .rstLow => .next s
  | .commandTooWide => .refused .commandTooWide
  | .noSuchPattern => .fault .noSuchPattern

/-! ## Placing a word so that the next step runs it (log 11) -/

/-- A buffer that holds the bytes `l` from index 0 up and nothing else known. -/
def Memory.loaded (m : Memory) (l : List Byte) : Memory :=
  { m with cells := (List.range l.length).zip l, cap := none }

/-- The state with one more input, ahead of all others. -/
def State.withInput (s : State) (inp : Input) : State := { s with agenda := inp :: s.agenda }

/-- Registers of `ENC` in which the select vector of R84 is `v`. -/
def encRegsFor (v : BitVec 4) : EncRegs :=
  if v.getLsbD 3 then { st := .run, len := 0, o := 0, outLen := 0 }
  else { st := .run, len := if v.getLsbD 0 then 3 else 1, o := (v.extractLsb' 1 2).toNat, outLen := 0 }

/-- Registers of `DEC` in `SCAN`, before the last of four characters or after it. -/
def scanRegsFor (v : BitVec 3) : DecRegs :=
  { DecRegs.reset with st := .scan, len := 4, i := if v.getLsbD 2 then 4 else 3 }

/-- Four characters of which the last has the class code of the vector: `A`, `=` or `@`. -/
def scanBytesFor (v : BitVec 3) : List Byte :=
  [0x41, 0x41, 0x41, if v.getLsbD 1 then 0x40 else if v.getLsbD 0 then 0x3D else 0x41]

/-- Registers of `DEC` in `REPACK` at the only group of a validated string of four characters, or after it. -/
def repackRegsFor (v : BitVec 3) : DecRegs :=
  { DecRegs.reset with
    st := .repack, len := 4, i := 4, g := if v.getLsbD 2 then 1 else 0
    pad := if v.getLsbD 1 then 2 else if v.getLsbD 0 then 1 else 0 }

/-- Four characters of the shape of the vector: `AAAA`, `AAA=` or `AA==`. -/
def repackBytesFor (v : BitVec 3) : List Byte :=
  [0x41, 0x41, if v.getLsbD 1 then 0x3D else 0x41, if v.getLsbD 0 then 0x3D else 0x41]

/-- The state in which the next step presents the word `p`: an input put first, or, for a select vector, a unit's
registers and input characters that show it, in buffers inside the block, and one clock edge of that unit. -/
def State.placeWord (s : State) (p : PortWord) : State :=
  match p with
  | .ctrl u w => s.withInput (.writeReg u 0 w false)
  | .call u w => s.withInput (.call u w)
  | .rst _ => s.withInput .rst
  | .encIndex i => s.withInput (.encIndex i)
  | .decIndex c => s.withInput (.decIndex c)
  | .encSel v =>
    { s with bufMap := BufMap.unplaced, enc := encRegsFor v, encIn := s.encIn.loaded [0x4D, 0x61, 0x6E] }.withInput (.clk .enc)
  | .decCheck =>
    { s with bufMap := BufMap.unplaced, dec := { DecRegs.reset with st := .check, len := 4 } }.withInput (.clk .dec)
  | .scanSel v =>
    { s with bufMap := BufMap.unplaced, dec := scanRegsFor v, decIn := s.decIn.loaded (scanBytesFor v) }.withInput (.clk .dec)
  | .repackSel v =>
    { s with bufMap := BufMap.unplaced, dec := repackRegsFor v, decIn := s.decIn.loaded (repackBytesFor v) }.withInput (.clk .dec)

end Sys2Proof.Machine
end

