-- ==== Sys2Proof/Machine/Step.lean ====
section
/-! DEFINITION. One step of the machine: what is presented, decoded and executed. -/

namespace Sys2Proof.Machine

/-- One step: an operation of the table when a word is presented, the host's access otherwise. -/
def step (s : State) : Host.Outcome State Fault Refusal :=
  match fetch s with
  | .other o => o
  | .word p t =>
    match decode t.lenW p with
    | .ok i => exec i t
    | .error e => rejected e t

/-- The state in which the next step presents the bits of a table row (log 11). -/
def State.withFetchWord (s : State) (nbits w : Nat) : State := s.placeWord (tableInput nbits w)

end Sys2Proof.Machine
end

