-- ==== Sys2Proof/Machine/Functions.lean ====
section
/-! DEFINITION. The operation level (00_scope.md R12): ENCODE and DECODE as functions of the input buffer, from the
pseudocode of 40_commands.md R104 and R106. The machine does not use them: claims compare it with them (R110). -/

namespace Sys2Proof.Machine

/-- Entry `k` of a byte sequence; only entries of the sequence are asked for. -/
def byteOf (b : List Byte) (k : Nat) : Byte := b.getD k 0

/-- The 6-bit index of the `sel`-th character of a group (R104). -/
def encIdx (sel : Nat) (b0 b1 b2 : Byte) : Idx :=
  if sel = 0 then idx0 b0
  else if sel = 1 then idx1 b0 b1
  else if sel = 2 then idx2 b1 b2
  else idx3 b2

/-- `enc(b)[o]` of R104. -/
def encChar (b : List Byte) (o : Nat) : Byte :=
  let i := 3 * (o / 4)
  let rem := min 3 (b.length - i)
  let b1 := if 2 ≤ rem then byteOf b (i + 1) else 0
  let b2 := if rem = 3 then byteOf b (i + 2) else 0
  if o % 4 ≤ rem then encLut (encIdx (o % 4) (byteOf b i) b1 b2) else Config.padChar

/-- `enc(b)` of R104, `m = 4*ceil(n/3)` characters. -/
def enc (b : List Byte) : List Byte := (List.range (encM b.length)).map (encChar b)

/-- The loop of R106 over the characters from index `i` on, with `pad` of them `=` so far: the first offender in
ascending index, or the number of `=`. -/
def decScan (len : Nat) : List Byte → Nat → Nat → Except ErrKind Nat
  | [], _, pad => .ok pad
  | c :: r, i, pad =>
    match cls c with
    | .inv => .error .invalidCharacterError
    | .pad => if i + 2 < len then .error .invalidPaddingError else decScan len r (i + 1) (pad + 1)
    | .val _ => if pad ≠ 0 then .error .invalidPaddingError else decScan len r (i + 1) pad

/-- The tail-bit condition of R106 and R149: the unused bits before the padding are not all zero. -/
def tailBitsBad (s : List Byte) (pad : Nat) : Bool :=
  (decide (pad = 2) && decLut (byteOf s (s.length - 3)) &&& 0xF != 0) ||
  (decide (pad = 1) && decLut (byteOf s (s.length - 2)) &&& 0x3 != 0)

/-- The value that stands for an entry in the byte formulas: 0 for `=` (R106, R170). -/
def valueOf (e : Byte) : Idx := if e = Config.padEntry then 0 else e.setWidth 6

/-- The bytes a group yields (R106, R176). -/
def groupBytes (c0 c1 c2 c3 : Byte) : List Byte :=
  let v0 := (decLut c0).setWidth 6
  let v1 := (decLut c1).setWidth 6
  let v2 := valueOf (decLut c2)
  let v3 := valueOf (decLut c3)
  [byte0 v0 v1] ++
  (if decLut c2 ≠ Config.padEntry then [byte1 v1 v2] else []) ++
  (if decLut c3 ≠ Config.padEntry then [byte2 v2 v3] else [])

/-- The bytes of all groups in order (R106). -/
def repackAll : List Byte → List Byte
  | c0 :: c1 :: c2 :: c3 :: r => groupBytes c0 c1 c2 c3 ++ repackAll r
  | _ => []

/-- `dec(s)` of R106. -/
def dec (s : List Byte) : Except ErrKind (List Byte) :=
  if s.length = 0 then .ok []
  else if s.length % 4 ≠ 0 then .error .lengthError
  else
    match decScan s.length s 0 0 with
    | .error k => .error k
    | .ok pad => if tailBitsBad s pad then .error .invalidPaddingError else .ok (repackAll s)

/-- The first `n` bytes of space `sp` as a sequence. -/
def State.bytes (s : State) (sp : Space) (n : Nat) : List Byte := (List.range n).map (s.byteAt sp)

end Sys2Proof.Machine
end

