-- ==== Sys2Proof/Machine/Ports.lean ====
section
/-! DEFINITION. The output ports of a unit (10_state.md R31) as functions of the state: the levels `busy`, `done`,
`err`, `out_len`, and what the buffer ports show in the step a busy unit takes next: the indices it reads (`in_addr`) and
the entries it writes (`out_addr`, `out_data`, with `out_we` at 1). A step may use a port more than once; how many
physical ports serve it is not modelled (R31, R53). -/

namespace Sys2Proof.Machine

/-- The output ports of one unit. -/
structure OutPorts where
  busy : Bool
  done : Bool
  err : BitVec 2
  outLen : Nat
  /-- The values of `in_addr` in the next step. -/
  reads : List Nat
  /-- The pairs `out_addr`, `out_data` with `out_we` = 1 in the next step. -/
  writes : List (Nat × Byte)
  deriving DecidableEq, Repr

/-- The group word `G` with the first byte most significant (R51, R72, R120). -/
def State.encG (s : State) : Group :=
  s.encGroupBytes.1 ++ s.encGroupBytes.2.1 ++ s.encGroupBytes.2.2

/-- The 6-bit multiplexer: field `sel` of `G` (R121, R72). -/
def groupField (G : Group) (sel : Nat) : Idx := G.extractLsb' (18 - 6 * sel) 6

/-- The output multiplexer: the symbol when `sel <= rem`, `=` otherwise (R129). -/
def State.encOutData (s : State) : Byte :=
  if s.encSel ≤ s.encRem then encLut (groupField s.encG s.encSel) else Config.padChar

/-- The decoder's word `W = v0, v1, v2, v3` (R51, R73). -/
def decWordOf (v0 v1 v2 v3 : Idx) : Group := v0 ++ v1 ++ v2 ++ v3

/-- The entries written for a group of classes `k0` to `k3` at output index `lo`: three for a full group, two with one pad,
one with two pads, `=` as 0 in `W` (R170, R176). A group of any other shape is assigned no output (R177). -/
def groupWrites (lo : Nat) (k0 k1 k2 k3 : Cls) : List (Nat × Byte) :=
  match k0, k1, k2, k3 with
  | .val v0, .val v1, .val v2, .val v3 =>
    let w := decWordOf v0 v1 v2 v3
    [(lo, w.extractLsb' 16 8), (lo + 1, w.extractLsb' 8 8), (lo + 2, w.extractLsb' 0 8)]
  | .val v0, .val v1, .val v2, .pad =>
    let w := decWordOf v0 v1 v2 0
    [(lo, w.extractLsb' 16 8), (lo + 1, w.extractLsb' 8 8)]
  | .val v0, .val v1, .pad, .pad => [(lo, (decWordOf v0 v1 0 0).extractLsb' 16 8)]
  | _, _, _, _ => []

/-- The entries a repack step writes (R176, R179). -/
def State.decWrites (s : State) : List (Nat × Byte) :=
  groupWrites (3 * s.dec.g) (s.decCls (4 * s.dec.g)) (s.decCls (4 * s.dec.g + 1)) (s.decCls (4 * s.dec.g + 2))
    (s.decCls (4 * s.dec.g + 3))

/-- The indices of the encoder's group fetch, one for each byte the group has (R53, R120, R131). -/
def State.encReads (s : State) : List Nat := (List.range s.encRem).map (s.encBase + ·)

/-- The output ports of `ENC`. -/
def encPorts (s : State) : OutPorts :=
  let writing := encBusy s && decide (s.enc.o < s.encM)
  { busy := encBusy s, done := encDone s, err := 0, outLen := s.enc.outLen
    reads := if writing then s.encReads else []
    writes := if writing then [(s.enc.o, s.encOutData)] else [] }

/-- The output ports of `DEC`. -/
def decPorts (s : State) : OutPorts :=
  let repacking := s.dec.st == .repack && decide (s.dec.g < s.decNG)
  { busy := decBusy s, done := decDone s, err := errCode s.dec.err, outLen := s.dec.outLen
    reads :=
      if s.dec.st = .scan ∧ s.dec.i < s.dec.len then [s.dec.i]
      else if repacking then [4 * s.dec.g, 4 * s.dec.g + 1, 4 * s.dec.g + 2, 4 * s.dec.g + 3]
      else []
    writes := if repacking then s.decWrites else [] }

end Sys2Proof.Machine
end

