-- ==== Sys2Proof/Safety.lean ====
section
/-! DEFINITION. What claims are stated with: frames, the invariants of the two units (41_encoder.md R130,
42_decoder_validation.md R150, 43_decoder_repack.md R178), and what a safe step is. -/

namespace Sys2Proof.Machine

/-! ## Frames -/

/-- Every byte outside `written` reads as before, those of the system's memory where no buffer stands among them, and every
entry exists as before. -/
def BytesKept (s t : State) (written : Space → Nat → Prop) : Prop :=
  (∀ sp k, ¬ written sp k → t.byteAt sp k = s.byteAt sp k) ∧
  (∀ a, (∀ sp, s.placedIn sp a = false) → t.sysByte a = s.sysByte a) ∧ ∀ sp k, t.holds sp k = s.holds sp k

/-- Nothing is written. -/
def nothing (_sp : Space) (_k : Nat) : Prop := False

/-- Entries `lo` to `lo + n - 1` of one space are written, and with them the entries of other spaces that share an address
with one of them in the placement of `s` (R231); without such sharing, exactly those entries of that space. -/
def entries (s : State) (sp : Space) (lo n : Nat) (sp' : Space) (k : Nat) : Prop :=
  ∃ j, lo ≤ j ∧ j < lo + n ∧ s.sameEntry sp j sp' k = true

/-- The parameters and the model's own fields are as before. -/
def ModelKept (s t : State) : Prop :=
  t.lenW = s.lenW ∧ t.csrMap = s.csrMap ∧ t.bufMap = s.bufMap ∧
  t.agenda = s.agenda ∧ t.hostData = s.hostData ∧ t.lutData = s.lutData ∧ t.fresh = s.fresh

/-- The effect of an encoder step that writes character `ch` (R122 to R127): entry `ENC.o` of `ENC.OUT`, then
`ENC.o + 1`; every other register, byte and field is as before. -/
def EncWrote (s t : State) (ch : Byte) : Prop :=
  t.byteAt .encOut s.enc.o = ch ∧
  t.enc = { s.enc with o := s.enc.o + 1 } ∧ t.dec = s.dec ∧
  BytesKept s t (entries s .encOut s.enc.o 1) ∧ ModelKept s t

/-- The effect of a repack step that writes `l` (R172 to R174): entries `3g` up of `DEC.OUT`, then `DEC.g + 1`; every
other register, byte and field is as before. -/
def DecWrote (s t : State) (l : List Byte) : Prop :=
  t.enc = s.enc ∧ t.dec = { s.dec with g := s.dec.g + 1 } ∧
  (∀ j, j < l.length → t.byteAt .decOut (3 * s.dec.g + j) = byteOf l j) ∧
  BytesKept s t (entries s .decOut (3 * s.dec.g) l.length) ∧ ModelKept s t

/-! ## Invariants -/

/-- The four buffers and the system's memory are in canonical form. -/
def MemoriesWf (s : State) : Prop :=
  s.encIn.wf = true ∧ s.encOut.wf = true ∧ s.decIn.wf = true ∧ s.decOut.wf = true ∧ s.sysMem.wf = true

/-- The encoder's registers agree with its state (R21, R128, R130). -/
def EncInv (s : State) : Prop :=
  Config.lenInBound s.lenW .enc s.enc.len = true ∧
  match s.enc.st with
  | .idle => s.enc = EncRegs.reset
  | .run => s.enc.o ≤ s.encM ∧ s.enc.outLen = 0
  | .done => s.enc.o = s.encM ∧ s.enc.outLen = s.encM

/-- What the scan has established of the characters before `DEC.i` (R150 (a)): all are symbols but the last `DEC.pad`
of them, which are `=` and stand in the last two positions; `DEC.prev` is the value of the symbol before them, and
`DEC.tailbad` is R149's judgement of it. -/
def Scanned (s : State) : Prop :=
  0 < s.dec.len ∧ s.dec.len % 4 = 0 ∧ s.dec.i ≤ s.dec.len ∧
  s.dec.err = none ∧ s.dec.outLen = 0 ∧
  s.dec.pad.val ≤ s.dec.i ∧
  (∀ k, k + s.dec.pad.val < s.dec.i → ∃ v, s.decCls k = .val v) ∧
  (∀ k, s.dec.i ≤ k + s.dec.pad.val → k < s.dec.i → s.decCls k = .pad) ∧
  (0 < s.dec.pad.val → s.dec.len + s.dec.pad.val ≤ s.dec.i + 2) ∧
  (s.dec.pad.val < s.dec.i → s.decCls (s.dec.i - s.dec.pad.val - 1) = .val s.dec.prev) ∧
  s.dec.tailbad = (decide (0 < s.dec.pad.val) && tailJudgement s.dec.len (s.dec.i - s.dec.pad.val) s.dec.prev)

/-- The decoder's registers agree with its state (R22, R150, R178, R196). -/
def DecInv (s : State) : Prop :=
  Config.lenInBound s.lenW .dec s.dec.len = true ∧
  s.dec.i ≤ s.dec.len ∧ s.dec.g ≤ s.decNG ∧
  match s.dec.st with
  | .idle => s.dec = DecRegs.reset
  | .check => s.dec = DecRegs.started s.dec.len
  | .scan => Scanned s ∧ s.dec.g = 0
  | .repack => Scanned s ∧ s.dec.i = s.dec.len ∧ s.dec.tailbad = false
  | .done =>
    match s.dec.err with
    | none => s.dec.outLen = decResultLen s.dec.len s.dec.pad.val
    | some _ => s.dec.outLen = 0

/-- No busy unit has buffers whose placement has no meaning (R231, U12). -/
def PlacementSupported (s : State) : Prop := ∀ u, busy u s = true → s.unsupported u = false

/-- The invariant of the machine. -/
def Inv (s : State) : Prop := MemoriesWf s ∧ EncInv s ∧ DecInv s ∧ PlacementSupported s

/-- The platform provides every entry that the running operations use (R34). -/
def Provided (s : State) : Prop :=
  (busy .enc s = true →
    (∀ k, k < s.enc.len → s.holds .encIn k = true) ∧ (∀ k, k < s.encM → s.holds .encOut k = true)) ∧
  (busy .dec s = true →
    (∀ k, k < s.dec.len → s.holds .decIn k = true) ∧ (∀ k, k < s.dec.len / 4 * 3 → s.holds .decOut k = true))

/-- While the encoder runs, the characters written so far are those of `enc` of its input (R130). -/
def EncOutCorrect (s : State) : Prop :=
  s.enc.st = .run →
    ∀ k, k < s.enc.o → s.byteAt .encOut k = encChar (s.bytes .encIn s.enc.len) k

/-- While the decoder repacks, the bytes written so far are those of `dec` of its input (R178). -/
def DecOutCorrect (s : State) : Prop :=
  s.dec.st = .repack →
    ∃ out, dec (s.bytes .decIn s.dec.len) = .ok out ∧
      ∀ k, k < min (3 * s.dec.g) out.length → s.byteAt .decOut k = byteOf out k

/-! ## Which operations belong to which unit -/

/-- The operations that act on the encoder alone. -/
def encSide : List Instr :=
  [.encSym0, .encSym1, .encSym2, .encSym3, .encPad2, .encPad3, .encFinish]

/-- The operations that act on the decoder alone. -/
def decSide : List Instr :=
  [.decCheck, .decScanVal, .decScanPad, .decScanInv, .decScanEnd, .decRepackG3, .decRepackG2, .decRepackG1, .decFinish]

/-- An operation of the encoder: a micro-operation, its START or a whole ENCODE. -/
def OfEncoder (i : Instr) : Prop := i ∈ encSide ∨ ∃ n, i = .encStart n ∨ i = .encodeOp n

/-- An operation of the decoder: a micro-operation, its START or a whole DECODE. -/
def OfDecoder (i : Instr) : Prop := i ∈ decSide ∨ ∃ n, i = .decStart n ∨ i = .decodeOp n

/-! ## Safe steps -/

/-- A step is safe when it stops in no fault: it gives a next state, or is refused because the spec gives the run no
meaning. -/
def Safe (s : State) : Prop := ∀ f, step s ≠ .fault f

end Sys2Proof.Machine
end

