-- ==== Sys2Proof/Certificates/Slice0/Obligations.lean ====
section
/-! DEFINITION. The statements about the codec core. Each says in its docstring which rule of spec/ it formalises, or
which log entry of the model it rests on. -/

open Sys2Proof Sys2Proof.Machine

/-! ## Encoding and decoding -/

/-- R71, R84, R85, R91. A presented word stands for instruction `i` exactly when `i` is well formed and the word, less
the bits that its select table does not examine, is the encoder's word of `i`. -/
def Obligations.DecodeIsExactInverseOfEncode : Prop :=
  ∀ (lenW : Option Nat) (p : PortWord) (i : Instr),
    decode lenW p = .ok i ↔ i.WellFormed lenW = true ∧ p.canon = encode i

/-- R71, R84, R85, R76, R80. Words written out from the spec's encodings decode to what they stand for: CMD 7 is START 3
(95_test_vectors.md M2), CMD 9 is START 4 (M3), and rows of each select table and each table. -/
def Obligations.SpecWordsDecode : Prop :=
  decode none (.ctrl .enc 0b111) = .ok (.encStart 3) ∧ decode none (.ctrl .dec 0b1001) = .ok (.decStart 4) ∧
  decode none (.rst 1) = .ok .reset ∧ decode none (.encSel 0b0101) = .ok .encSym2 ∧
  decode none (.encSel 0b1011) = .ok .encFinish ∧ decode none (.scanSel 0b001) = .ok .decScanPad ∧
  decode none (.repackSel 0b011) = .ok .decRepackG1 ∧ decode none (.encIndex 0b010011) = .ok .encLut19 ∧
  decode none (.decIndex 0x3D) = .ok .decLut3D ∧ decode none (.repackSel 0b010) = .error .noSuchPattern

/-- The model's step (log 5, log 6), with R220's priority of `rst`. A CMD word written to `CTRL`, a `rst` input, and a
select vector at a clock edge or in the free run are decoded and executed, in the state less the input taken; when
both units run freely the one that `Config.encoderFirst` names is taken, whatever word it presents, and one free value is
drawn. A clock edge of a unit at rest changes nothing but the inputs to come, and with no input and both units at rest
nothing changes (R83, R206). A step of a unit whose buffers overlap against R231 is refused (U12, log 18). -/
def Obligations.StepRunsTheDecodedInstruction : Prop :=
  ∀ s : State,
    (∀ i u w rest, s.agenda = .writeReg u 0 w false :: rest → decode s.lenW (.ctrl u w) = .ok i →
      step s = exec i { s with agenda := rest }) ∧
    (∀ i u w rest, s.agenda = .call u w :: rest → decode s.lenW (.call u w) = .ok i →
      step s = exec i { s with agenda := rest }) ∧
    (∀ u reg w rest, s.agenda = .writeReg u reg w true :: rest → step s = exec .reset { s with agenda := rest }) ∧
    (∀ rest, s.agenda = .rst :: rest → step s = exec .reset { s with agenda := rest }) ∧
    (∀ i k rest, s.agenda = .encIndex k :: rest → decode s.lenW (.encIndex k) = .ok i →
      step s = exec i { s with agenda := rest }) ∧
    (∀ i c rest, s.agenda = .decIndex c :: rest → decode s.lenW (.decIndex c) = .ok i →
      step s = exec i { s with agenda := rest }) ∧
    (∀ i u p rest, s.agenda = .clk u :: rest → unitWord u { s with agenda := rest } = .ok (some p) →
      decode s.lenW p = .ok i → step s = exec i { s with agenda := rest }) ∧
    (∀ u rest, s.agenda = .clk u :: rest → busy u s = false → step s = .next { s with agenda := rest }) ∧
    (∀ i p, s.agenda = [] → encBusy s = true → decBusy s = false → unitWord .enc s = .ok (some p) →
      decode s.lenW p = .ok i → step s = exec i s) ∧
    (∀ i p, s.agenda = [] → encBusy s = false → unitWord .dec s = .ok (some p) → decode s.lenW p = .ok i →
      step s = exec i s) ∧
    (s.unsupported .enc = false → unitWord .enc s = .ok (encWord s)) ∧
    (s.unsupported .dec = false → unitWord .dec s = decWord s) ∧
    (∀ u rest, s.agenda = .clk u :: rest → busy u s = true → s.unsupported u = true →
      step s = .refused (.overlappingBuffers u)) ∧
    (s.agenda = [] → encBusy s = true → decBusy s = true →
      ∀ i p, unitWord (if Config.encoderFirst s.fresh then .enc else .dec) s = .ok (some p) →
        decode s.lenW p = .ok i → step s = exec i s.draw) ∧
    (s.agenda = [] → encBusy s = false → decBusy s = false → step s = .next s)

/-- R84: the select vector of a running encoder shows the pattern of the row whose condition holds, that pattern selects
that row's micro-operation, and before the end the group has at least one byte, so `0000` and `0010` do not occur. -/
def Obligations.EncoderSelectVector : Prop :=
  ∀ s : State, s.enc.st = .run → s.enc.o ≤ 4 * ((s.enc.len + 2) / 3) →
    let sel := s.enc.o % 4
    let rem := min 3 (s.enc.len - 3 * (s.enc.o / 4))
    let selects (v : BitVec 4) (i : Instr) := s.encSelect = v ∧ decode s.lenW (.encSel v) = .ok i
    (s.enc.o = 4 * ((s.enc.len + 2) / 3) →
      s.encSelect.msb = true ∧ ∀ v : BitVec 4, v.msb = true → decode s.lenW (.encSel v) = .ok .encFinish) ∧
    (s.enc.o < 4 * ((s.enc.len + 2) / 3) →
      1 ≤ rem ∧ s.encSelect ≠ 0b0000 ∧ s.encSelect ≠ 0b0010 ∧
      (sel = 0 → selects 0b0001 .encSym0) ∧ (sel = 1 → selects 0b0011 .encSym1) ∧
      (sel = 2 ∧ 2 ≤ rem → selects 0b0101 .encSym2) ∧ (sel = 2 ∧ rem = 1 → selects 0b0100 .encPad2) ∧
      (sel = 3 ∧ rem = 3 → selects 0b0111 .encSym3) ∧ (sel = 3 ∧ rem ≤ 2 → selects 0b0110 .encPad3))

/-- R85: what the decoder's state presents, and the micro-operation it selects, of an `end` or `fin` vector its first bit
only; the `SCAN` pattern `011` does not exist and
the `REPACK` pattern `010` does not occur after a passed validation. An entry that the platform does not provide is not classified (log 2). -/
def Obligations.DecoderSelectVector : Prop :=
  ∀ s : State,
    let selects (p : PortWord) (i : Instr) := decWord s = .ok (some p) ∧ decode s.lenW p = .ok i
    (s.dec.st = .check → selects .decCheck .decCheck) ∧
    (s.dec.st = .scan → s.dec.i = s.dec.len →
      ∃ v : BitVec 3, v.msb = true ∧ selects (.scanSel v) .decScanEnd) ∧
    (s.dec.st = .scan → s.dec.i < s.dec.len → s.holds .decIn s.dec.i = true →
      let e := decLut (s.byteAt .decIn s.dec.i)
      (e ≤ 63 → selects (.scanSel 0b000) .decScanVal) ∧ (e = 254 → selects (.scanSel 0b001) .decScanPad) ∧
      (e = 255 → selects (.scanSel 0b010) .decScanInv)) ∧
    (s.dec.st = .repack → s.dec.g = s.dec.len / 4 →
      ∃ v : BitVec 3, v.msb = true ∧ selects (.repackSel v) .decFinish) ∧
    (s.dec.st = .repack → s.dec.g < s.dec.len / 4 → (∀ j, j < 4 → s.holds .decIn (4 * s.dec.g + j) = true) →
      let p2 := decLut (s.byteAt .decIn (4 * s.dec.g + 2)) = 254
      let p3 := decLut (s.byteAt .decIn (4 * s.dec.g + 3)) = 254
      (¬ p2 → ¬ p3 → selects (.repackSel 0b000) .decRepackG3) ∧ (¬ p2 → p3 → selects (.repackSel 0b001) .decRepackG2) ∧
      (p2 → p3 → selects (.repackSel 0b011) .decRepackG1) ∧ (Inv s → p2 → p3)) ∧
    (∀ v : BitVec 3, v.msb = true →
      decode s.lenW (.scanSel v) = .ok .decScanEnd ∧ decode s.lenW (.repackSel v) = .ok .decFinish) ∧
    decode s.lenW (.scanSel 0b011) = .error .noSuchPattern ∧ decode s.lenW (.repackSel 0b010) = .error .noSuchPattern

/-! ## The tables -/

/-- R77 and R81: the closed forms of both tables; the 64 symbols differ pairwise, lie below 128 and are not `=`. -/
def Obligations.TablesHaveTheirClosedForms : Prop :=
  (∀ i : Idx, encLut i =
    if i ≤ 25 then 0x41 + i.setWidth 8 else if i ≤ 51 then 0x47 + i.setWidth 8
    else if i ≤ 61 then i.setWidth 8 - 4 else if i = 62 then 0x2B else 0x2F) ∧
  (∀ i j : Idx, encLut i = encLut j → i = j) ∧ (∀ i : Idx, encLut i < 128 ∧ encLut i ≠ 0x3D) ∧
  (∀ c : Byte, decLut c =
    if 0x41 ≤ c ∧ c ≤ 0x5A then c - 0x41 else if 0x61 ≤ c ∧ c ≤ 0x7A then c - 0x47
    else if 0x30 ≤ c ∧ c ≤ 0x39 then c + 4 else if c = 0x2B then 62 else if c = 0x2F then 63
    else if c = 0x3D then 254 else 255)

/-- R82: the two tables are inverse to each other. -/
def Obligations.TablesAreInverse : Prop :=
  (∀ i : Idx, decLut (encLut i) = i.setWidth 8) ∧
  (∀ c : Byte, decLut c ≤ 63 → encLut ((decLut c).setWidth 6) = c) ∧
  decLut 0x3D = 254 ∧
  (∀ c : Byte, c ≠ 0x3D → (∀ i : Idx, encLut i ≠ c) → decLut c = 255)

/-- R76, R53, R54 and the model's log 9: each of the 64 rows `encLut0` to `encLut63` completes in every state; its answer
is the entry of `ENC_LUT` at the row's index, and nothing else changes. -/
def Obligations.EncLutRowsAnswerTheirEntry : Prop :=
  encLutRows.length = 64 ∧
  ∀ k : Idx, ∃ i, encLutRows[k.toNat]? = some i ∧ (∀ lenW, decode lenW (.encIndex k) = .ok i) ∧
    ∀ s : State, exec i s = .next { s with lutData := encLut k }

/-- R80, R53, R54 and the model's log 9: each of the 256 rows `decLut00` to `decLutFF` completes in every state; its
answer is the entry of `DEC_LUT` at the row's byte, and nothing else changes. -/
def Obligations.DecLutRowsAnswerTheirEntry : Prop :=
  decLutRows.length = 256 ∧
  ∀ c : Byte, ∃ i, decLutRows[c.toNat]? = some i ∧ (∀ lenW, decode lenW (.decIndex c) = .ok i) ∧
    ∀ s : State, exec i s = .next { s with lutData := decLut c }

/-! ## The encoder's micro-operations -/

/-- R122 (with R120's fetch of the whole group): `ENC.SYM0` writes the symbol of bits 7:2 of `b0`. -/
def Obligations.Sym0WritesTheFirstSymbol : Prop :=
  ∀ s : State, s.enc.st = .run → s.enc.o < 4 * ((s.enc.len + 2) / 3) → s.enc.o % 4 = 0 →
    let i := 3 * (s.enc.o / 4)
    (∀ j, j < min 3 (s.enc.len - i) → s.holds .encIn (i + j) = true) → s.holds .encOut s.enc.o = true →
    let b0 := s.byteAt .encIn i
    ∃ t, exec .encSym0 s = .next t ∧ EncWrote s t (encLut (b0.extractLsb' 2 6))

/-- R123: `ENC.SYM1` writes the symbol of `b0[1:0], b1[7:4]`; an absent `b1` is zero and is not read. -/
def Obligations.Sym1WritesTheSecondSymbol : Prop :=
  ∀ s : State, s.enc.st = .run → s.enc.o < 4 * ((s.enc.len + 2) / 3) → s.enc.o % 4 = 1 →
    let i := 3 * (s.enc.o / 4)
    let rem := min 3 (s.enc.len - i)
    (∀ j, j < rem → s.holds .encIn (i + j) = true) → s.holds .encOut s.enc.o = true →
    let b1 : Byte := if 2 ≤ rem then s.byteAt .encIn (i + 1) else 0
    ∃ t, exec .encSym1 s = .next t ∧ EncWrote s t (encLut ((s.byteAt .encIn i ++ b1).extractLsb' 4 6))

/-- R124: `ENC.SYM2` writes the symbol of `b1[3:0], b2[7:6]`; an absent `b2` is zero and is not read. -/
def Obligations.Sym2WritesTheThirdSymbol : Prop :=
  ∀ s : State, s.enc.st = .run → s.enc.o < 4 * ((s.enc.len + 2) / 3) → s.enc.o % 4 = 2 →
    let i := 3 * (s.enc.o / 4)
    let rem := min 3 (s.enc.len - i)
    2 ≤ rem → (∀ j, j < rem → s.holds .encIn (i + j) = true) → s.holds .encOut s.enc.o = true →
    let b2 : Byte := if rem = 3 then s.byteAt .encIn (i + 2) else 0
    ∃ t, exec .encSym2 s = .next t ∧ EncWrote s t (encLut ((s.byteAt .encIn (i + 1) ++ b2).extractLsb' 6 6))

/-- R125: `ENC.SYM3` writes the symbol of `b2[5:0]`. -/
def Obligations.Sym3WritesTheFourthSymbol : Prop :=
  ∀ s : State, s.enc.st = .run → s.enc.o < 4 * ((s.enc.len + 2) / 3) → s.enc.o % 4 = 3 →
    let i := 3 * (s.enc.o / 4)
    min 3 (s.enc.len - i) = 3 → (∀ j, j < 3 → s.holds .encIn (i + j) = true) → s.holds .encOut s.enc.o = true →
    ∃ t, exec .encSym3 s = .next t ∧ EncWrote s t (encLut ((s.byteAt .encIn (i + 2)).extractLsb' 0 6))

/-- R126: `ENC.PAD2` writes `=`, whatever `ENC.IN` holds; it happens at `o = m - 2` only, and only when `n mod 3 = 1`. -/
def Obligations.Pad2WritesPadding : Prop :=
  ∀ s : State, s.enc.st = .run → s.enc.o < 4 * ((s.enc.len + 2) / 3) → s.enc.o % 4 = 2 →
    min 3 (s.enc.len - 3 * (s.enc.o / 4)) = 1 → s.holds .encIn (3 * (s.enc.o / 4)) = true →
    s.holds .encOut s.enc.o = true →
    s.enc.o + 2 = 4 * ((s.enc.len + 2) / 3) ∧ s.enc.len % 3 = 1 ∧
    ∃ t, exec .encPad2 s = .next t ∧ EncWrote s t 0x3D

/-- R127: `ENC.PAD3` writes `=`, whatever `ENC.IN` holds; it happens at `o = m - 1` only, and only when `n mod 3` is 1
or 2. -/
def Obligations.Pad3WritesPadding : Prop :=
  ∀ s : State, s.enc.st = .run → s.enc.o < 4 * ((s.enc.len + 2) / 3) → s.enc.o % 4 = 3 →
    let rem := min 3 (s.enc.len - 3 * (s.enc.o / 4))
    rem ≤ 2 → (∀ j, j < rem → s.holds .encIn (3 * (s.enc.o / 4) + j) = true) → s.holds .encOut s.enc.o = true →
    s.enc.o + 1 = 4 * ((s.enc.len + 2) / 3) ∧ (s.enc.len % 3 = 1 ∨ s.enc.len % 3 = 2) ∧
    ∃ t, exec .encPad3 s = .next t ∧ EncWrote s t 0x3D

/-- R128: `ENC.FINISH` publishes the length and ends the operation; `busy` becomes 0 and `done` 1, no buffer is touched. -/
def Obligations.EncFinishPublishesTheLength : Prop :=
  ∀ s : State, s.enc.st = .run → s.enc.o = 4 * ((s.enc.len + 2) / 3) →
    let t := s.setEnc { st := .done, len := s.enc.len, o := s.enc.o, outLen := 4 * ((s.enc.len + 2) / 3) }
    exec .encFinish s = .next t ∧ status .enc t = 0b0010

/-- R129: whichever micro-operation the encoder's select vector selects before the end, the character it writes is the
output multiplexer's, a field of the group word `G` through the table, or `=`; only the last group is shorter than 3.
The step reads each byte of the group once, 1 to 3 of them (R53, R120). -/
def Obligations.OutputMultiplexerFeedsEveryStep : Prop :=
  ∀ (s t : State) (i : Instr), s.enc.st = .run → s.enc.o < 4 * ((s.enc.len + 2) / 3) →
    decode s.lenW (.encSel s.encSelect) = .ok i → exec i s = .next t →
    let i0 := 3 * (s.enc.o / 4)
    let rem := min 3 (s.enc.len - i0)
    let b1 : Byte := if 2 ≤ rem then s.byteAt .encIn (i0 + 1) else 0
    let b2 : Byte := if rem = 3 then s.byteAt .encIn (i0 + 2) else 0
    let G : Group := s.byteAt .encIn i0 ++ b1 ++ b2
    let sel := s.enc.o % 4
    t.byteAt .encOut s.enc.o = (if sel ≤ rem then encLut (G.extractLsb' (18 - 6 * sel) 6) else 0x3D) ∧
    (encPorts s).writes = [(s.enc.o, t.byteAt .encOut s.enc.o)] ∧ (rem < 3 → s.enc.o / 4 + 1 = (s.enc.len + 2) / 3) ∧
    (encPorts s).reads = (List.range rem).map (i0 + ·) ∧ 1 ≤ rem ∧ rem ≤ 3 ∧
    ∀ j, j < rem → s.holds .encIn (i0 + j) = true

/-! ## The decoder's micro-operations -/

/-- R141: `DEC.CHECK` ends an empty operation, raises `LengthError` for a length that is no multiple of 4, and goes on to
the scan otherwise. -/
def Obligations.CheckJudgesTheLength : Prop :=
  ∀ s : State, s.dec.st = .check →
    (s.dec.len = 0 →
      exec .decCheck s = .next (s.setDec { s.dec with st := .done }) ∧ (Inv s → s.dec.err = none ∧ s.dec.outLen = 0) ∧
      busy .dec (s.setDec { s.dec with st := .done }) = false ∧ done .dec (s.setDec { s.dec with st := .done }) = true) ∧
    (s.dec.len % 4 ≠ 0 →
      exec .decCheck s = .next (s.setDec { s.dec with err := some .lengthError, outLen := 0, st := .done })) ∧
    (s.dec.len ≠ 0 → s.dec.len % 4 = 0 → exec .decCheck s = .next (s.setDec { s.dec with st := .scan }))

/-- R144: `DEC.SCAN.VAL` takes the symbol's value, or raises `InvalidPaddingError` for a symbol after a `=`; in a run that
happens at the last character only. -/
def Obligations.ScanValTakesTheSymbol : Prop :=
  ∀ s : State, s.dec.st = .scan → s.dec.i < s.dec.len → s.holds .decIn s.dec.i = true →
    let e := decLut (s.byteAt .decIn s.dec.i)
    e ≤ 63 →
    (s.dec.pad = 0 →
      exec .decScanVal s = .next (s.setDec { s.dec with prev := e.extractLsb' 0 6, i := s.dec.i + 1 })) ∧
    (s.dec.pad ≠ 0 →
      exec .decScanVal s = .next (s.setDec { s.dec with err := some .invalidPaddingError, outLen := 0, st := .done }) ∧
      (Inv s → s.dec.i + 1 = s.dec.len))

/-- R145: `DEC.SCAN.PAD` raises `InvalidPaddingError` for a `=` before the last two positions; it counts the first `=` of
the run and judges the tail bits of the symbol before it; it counts the second and keeps the judgement. -/
def Obligations.ScanPadCountsAndJudges : Prop :=
  ∀ s : State, s.dec.st = .scan → s.dec.i < s.dec.len → s.holds .decIn s.dec.i = true →
    decLut (s.byteAt .decIn s.dec.i) = 254 →
    (s.dec.i + 2 < s.dec.len →
      exec .decScanPad s = .next (s.setDec { s.dec with err := some .invalidPaddingError, outLen := 0, st := .done })) ∧
    (s.dec.i + 2 = s.dec.len → s.dec.pad = 0 →
      exec .decScanPad s = .next (s.setDec
        { s.dec with tailbad := decide (s.dec.prev.toNat % 16 ≠ 0), pad := 1, i := s.dec.i + 1 })) ∧
    (s.dec.i + 1 = s.dec.len → s.dec.pad = 0 →
      exec .decScanPad s = .next (s.setDec
        { s.dec with tailbad := decide (s.dec.prev.toNat % 4 ≠ 0), pad := 1, i := s.dec.i + 1 })) ∧
    (s.dec.len ≤ s.dec.i + 2 → s.dec.pad = 1 →
      exec .decScanPad s = .next (s.setDec { s.dec with pad := 2, i := s.dec.i + 1 }))

/-- R143: `DEC.SCAN.INV` raises `InvalidCharacterError`, always. -/
def Obligations.ScanInvRaises : Prop :=
  ∀ s : State, s.dec.st = .scan → s.dec.i < s.dec.len → s.holds .decIn s.dec.i = true →
    decLut (s.byteAt .decIn s.dec.i) = 255 →
    exec .decScanInv s =
      .next (s.setDec { s.dec with err := some .invalidCharacterError, outLen := 0, st := .done })

/-- R146: `DEC.SCAN.END` gives the verdict on the tail bits. -/
def Obligations.ScanEndGivesTheVerdict : Prop :=
  ∀ s : State, s.dec.st = .scan → s.dec.i = s.dec.len →
    (s.dec.tailbad = true →
      exec .decScanEnd s = .next (s.setDec { s.dec with err := some .invalidPaddingError, outLen := 0, st := .done })) ∧
    (s.dec.tailbad = false → exec .decScanEnd s = .next (s.setDec { s.dec with st := .repack }))

/-- R172: `DEC.REPACK.G3` writes the three bytes of `W = v0, v1, v2, v3`. -/
def Obligations.RepackG3WritesThreeBytes : Prop :=
  ∀ (s : State) (v0 v1 v2 v3 : Idx), s.dec.st = .repack → s.dec.g < s.dec.len / 4 →
    (∀ j, j < 4 → s.holds .decIn (4 * s.dec.g + j) = true) →
    (∀ j, j < 3 → s.holds .decOut (3 * s.dec.g + j) = true) →
    decLut (s.byteAt .decIn (4 * s.dec.g)) = v0.setWidth 8 → decLut (s.byteAt .decIn (4 * s.dec.g + 1)) = v1.setWidth 8 →
    decLut (s.byteAt .decIn (4 * s.dec.g + 2)) = v2.setWidth 8 →
    decLut (s.byteAt .decIn (4 * s.dec.g + 3)) = v3.setWidth 8 →
    let W : Group := v0 ++ v1 ++ v2 ++ v3
    ∃ t, exec .decRepackG3 s = .next t ∧
      DecWrote s t [W.extractLsb' 16 8, W.extractLsb' 8 8, W.extractLsb' 0 8]

/-- R173: `DEC.REPACK.G2` writes the first two bytes of `W`; in a run it occurs for the last group only, with `pad` = 1 and
zero tail bits. -/
def Obligations.RepackG2WritesTwoBytes : Prop :=
  ∀ (s : State) (v0 v1 v2 : Idx), s.dec.st = .repack → s.dec.g < s.dec.len / 4 →
    (∀ j, j < 4 → s.holds .decIn (4 * s.dec.g + j) = true) →
    (∀ j, j < 2 → s.holds .decOut (3 * s.dec.g + j) = true) →
    decLut (s.byteAt .decIn (4 * s.dec.g)) = v0.setWidth 8 → decLut (s.byteAt .decIn (4 * s.dec.g + 1)) = v1.setWidth 8 →
    decLut (s.byteAt .decIn (4 * s.dec.g + 2)) = v2.setWidth 8 → decLut (s.byteAt .decIn (4 * s.dec.g + 3)) = 254 →
    let W : Group := v0 ++ v1 ++ v2 ++ (0 : Idx)
    (∃ t, exec .decRepackG2 s = .next t ∧ DecWrote s t [W.extractLsb' 16 8, W.extractLsb' 8 8]) ∧
    (Inv s → s.dec.g + 1 = s.dec.len / 4 ∧ s.dec.pad = 1 ∧ v2 &&& 0x3 = 0)

/-- R174: `DEC.REPACK.G1` writes the first byte of `W`; in a run it occurs for the last group only, with `pad` = 2 and zero
tail bits. -/
def Obligations.RepackG1WritesOneByte : Prop :=
  ∀ (s : State) (v0 v1 : Idx), s.dec.st = .repack → s.dec.g < s.dec.len / 4 →
    (∀ j, j < 4 → s.holds .decIn (4 * s.dec.g + j) = true) → s.holds .decOut (3 * s.dec.g) = true →
    decLut (s.byteAt .decIn (4 * s.dec.g)) = v0.setWidth 8 → decLut (s.byteAt .decIn (4 * s.dec.g + 1)) = v1.setWidth 8 →
    decLut (s.byteAt .decIn (4 * s.dec.g + 2)) = 254 → decLut (s.byteAt .decIn (4 * s.dec.g + 3)) = 254 →
    let W : Group := v0 ++ v1 ++ (0 : Idx) ++ (0 : Idx)
    (∃ t, exec .decRepackG1 s = .next t ∧ DecWrote s t [W.extractLsb' 16 8]) ∧
    (Inv s → s.dec.g + 1 = s.dec.len / 4 ∧ s.dec.pad = 2 ∧ v1 &&& 0xF = 0)

/-- R175: `DEC.FINISH` publishes the length of the result and ends the operation; `err` stays, and in a run it
is 0 and the length at least 1. -/
def Obligations.DecFinishPublishesTheLength : Prop :=
  ∀ s : State, s.dec.st = .repack → s.dec.g = s.dec.len / 4 →
    let t := s.setDec { s.dec with outLen := s.dec.len / 4 * 3 - s.dec.pad.val, st := .done }
    exec .decFinish s = .next t ∧ busy .dec t = false ∧ done .dec t = true ∧
    (Inv s → 4 ≤ s.dec.len ∧ s.dec.err = none ∧ 1 ≤ t.dec.outLen)

/-- R177, R88, R83 and the model's log 16. What the spec says cannot occur gets no effect: no repack operation and no output port writes an
output for a group with an invalid character, with a `=` among its first two characters, or with a third `=` and no
fourth; a third `=` is not counted; a micro-operation of a unit that is in none of the states that select it stops. -/
def Obligations.UnreachableFormsGetNoEffect : Prop :=
  ∀ s : State,
    (let e (j : Nat) := decLut (s.byteAt .decIn (4 * s.dec.g + j))
     (¬ e 0 ≤ 63 ∨ ¬ e 1 ≤ 63 ∨ e 2 = 255 ∨ e 3 = 255 ∨ (e 2 = 254 ∧ e 3 ≠ 254)) →
      (∀ i ∈ [Instr.decRepackG3, .decRepackG2, .decRepackG1], ∀ t, exec i s ≠ .next t) ∧ (decPorts s).writes = []) ∧
    (s.dec.pad = 2 → s.dec.len ≤ s.dec.i + 2 → ∀ t, exec .decScanPad s ≠ .next t) ∧
    (s.enc.st ≠ .run → ∀ i ∈ encSide, exec i s = .fault .notSelected) ∧
    (busy .dec s = false → ∀ i ∈ decSide, exec i s = .fault .notSelected)

/-! ## Commands, whole operations and reset -/

/-- R101: an accepted `ENC.START len`. -/
def Obligations.EncStartBeginsAnOperation : Prop :=
  ∀ (s : State) (len : Nat), busy .enc s = false → s.unsupported .enc = false →
    Config.lenInBound s.lenW .enc len = true →
    let t := s.setEnc { st := .run, len := len, o := 0, outLen := 0 }
    exec (.encStart len) s = .next t ∧ busy .enc t = true ∧ done .enc t = false

/-- R102: an accepted `DEC.START len`; it also clears an error. -/
def Obligations.DecStartBeginsAnOperation : Prop :=
  ∀ (s : State) (len : Nat), busy .dec s = false → s.unsupported .dec = false →
    Config.lenInBound s.lenW .dec len = true →
    let t := s.setDec { st := .check, len := len, i := 0, pad := 0, prev := 0, tailbad := false, g := 0, err := none,
                        outLen := 0 }
    exec (.decStart len) s = .next t ∧ status .dec t = 0b0001

/-- R103: a START presented while the unit is busy changes nothing, whatever its length. -/
def Obligations.StartWhileBusyIsIgnored : Prop :=
  ∀ (s : State) (len : Nat),
    (busy .enc s = true → exec (.encStart len) s = .next s) ∧ (busy .dec s = true → exec (.decStart len) s = .next s)

/-- R7 and R231 (U12): a START, taken or whole, of a unit that is not busy is refused where its buffers overlap against R231,
and, with a finite `LEN_W`, beyond `3*((2^LEN_W - 1) div 4)` for the encoder and `2^LEN_W - 1` for the decoder. Every other START
answers a next state: on a busy unit the same state, whatever its length (R103), and on any other the unit started. -/
def Obligations.StartBeyondTheBoundIsRefused : Prop :=
  (∀ (s : State) (w len : Nat), s.lenW = some w →
    (busy .enc s = false → s.unsupported .enc = false → 3 * ((2 ^ w - 1) / 4) < len →
      exec (.encStart len) s = .refused (.lengthBeyondBound .enc) ∧
      exec (.encodeOp len) s = .refused (.lengthBeyondBound .enc)) ∧
    (busy .dec s = false → s.unsupported .dec = false → 2 ^ w - 1 < len →
      exec (.decStart len) s = .refused (.lengthBeyondBound .dec) ∧
      exec (.decodeOp len) s = .refused (.lengthBeyondBound .dec))) ∧
  (∀ (s : State) (len : Nat),
    (busy .enc s = false → s.unsupported .enc = true →
      exec (.encStart len) s = .refused (.overlappingBuffers .enc) ∧
      exec (.encodeOp len) s = .refused (.overlappingBuffers .enc)) ∧
    (busy .dec s = false → s.unsupported .dec = true →
      exec (.decStart len) s = .refused (.overlappingBuffers .dec) ∧
      exec (.decodeOp len) s = .refused (.overlappingBuffers .dec)) ∧
    (busy .enc s = true → exec (.encStart len) s = .next s) ∧ (busy .dec s = true → exec (.decStart len) s = .next s) ∧
    (s.unsupported .enc = false → (∀ w, s.lenW = some w → len ≤ 3 * ((2 ^ w - 1) / 4)) →
      ∃ t, exec (.encStart len) s = .next t) ∧
    (s.unsupported .dec = false → (∀ w, s.lenW = some w → len ≤ 2 ^ w - 1) →
      ∃ t, exec (.decStart len) s = .next t))

/-- R220, R221, R37: `RESET` completes in every state; every working register is 0, both units are `IDLE` and both `STATUS`
read 0; nothing is known of either `OUT` buffer, wherever it stands, in an era of its own; the `IN` buffers are untouched, but
for an entry that shares an address with an `OUT` buffer. THE MODEL'S CHOICES in it: that every `OUT` byte loses its value and
no `IN` byte does is log 4's reading of R37 and R221; that `hostData` and `lutData` are kept is log 15, the inputs to come
log 5, and the parameters log 1, log 2 and log 18. -/
def Obligations.ResetClearsTheRegisters : Prop :=
  ∀ s : State, ∃ t, exec .reset s = .next t ∧
    t.enc = { st := .idle, len := 0, o := 0, outLen := 0 } ∧
    t.dec = { st := .idle, len := 0, i := 0, pad := 0, prev := 0, tailbad := false, g := 0, err := none, outLen := 0 } ∧
    status .enc t = 0 ∧ status .dec t = 0 ∧
    t.encOut.cells = [] ∧ t.decOut.cells = [] ∧ (∀ c ∈ t.sysMem.cells, s.outPlaced c.1 = false) ∧
    t.encOut.era = s.fresh + 1 ∧ t.decOut.era = s.fresh + 1 ∧ t.sysMem.era = s.fresh + 1 ∧ t.fresh = s.fresh + 1 ∧
    t.encIn = s.encIn ∧ t.decIn = s.decIn ∧ (∀ a, s.outPlaced a = false → t.sysByte a = s.sysByte a) ∧
    (∀ u k, (∀ v j, s.sameEntry (outSpace v) j (inSpace u) k = false) →
      t.byteAt (inSpace u) k = s.byteAt (inSpace u) k) ∧
    (∀ sp k, t.holds sp k = s.holds sp k) ∧ t.lenW = s.lenW ∧ t.csrMap = s.csrMap ∧ t.bufMap = s.bufMap ∧
    t.agenda = s.agenda ∧ t.hostData = s.hostData ∧ t.lutData = s.lutData

/-- R37: the state after reset: registers 0, nothing known of the buffers. -/
def Obligations.ResetStateIsTheSpecs : Prop :=
  State.reset.enc = { st := .idle, len := 0, o := 0, outLen := 0 } ∧
  State.reset.dec =
    { st := .idle, len := 0, i := 0, pad := 0, prev := 0, tailbad := false, g := 0, err := none, outLen := 0 } ∧
  (∀ u, busy u State.reset = false ∧ done u State.reset = false ∧ status u State.reset = 0b0000) ∧
  (∀ sp, (State.reset.mem sp).cells = []) ∧ State.reset.sysMem.cells = []

/-- R104: `ENCODE` leaves `enc(b)` in `ENC.OUT`, its length in `ENC.OUT_LEN`, and nothing else changed. -/
def Obligations.EncodeComputesEnc : Prop :=
  ∀ (s : State) (n : Nat), busy .enc s = false → s.unsupported .enc = false →
    Config.lenInBound s.lenW .enc n = true →
    (∀ k, k < n → s.holds .encIn k = true) → (∀ k, k < 4 * ((n + 2) / 3) → s.holds .encOut k = true) →
    let m := 4 * ((n + 2) / 3)
    ∃ t, exec (.encodeOp n) s = .next t ∧
      t.enc = { st := .done, len := n, o := m, outLen := m } ∧ t.dec = s.dec ∧
      t.bytes .encOut m = enc (s.bytes .encIn n) ∧
      BytesKept s t (entries s .encOut 0 m) ∧ ModelKept s t

/-- R106: `DECODE` leaves the bytes of `dec(s)` in `DEC.OUT` and their number in `DEC.OUT_LEN`, or the error's code and no
result with `DEC.OUT` not written. -/
def Obligations.DecodeComputesDec : Prop :=
  ∀ (s : State) (len : Nat), busy .dec s = false → s.unsupported .dec = false →
    Config.lenInBound s.lenW .dec len = true →
    (len % 4 = 0 → ∀ k, k < len → s.holds .decIn k = true) →
    (∀ out, dec (s.bytes .decIn len) = .ok out → ∀ k, k < out.length → s.holds .decOut k = true) →
    ∃ t, exec (.decodeOp len) s = .next t ∧
      t.enc = s.enc ∧ t.dec.st = .done ∧ t.dec.len = len ∧ ModelKept s t ∧
      (∀ out, dec (s.bytes .decIn len) = .ok out →
        t.dec.err = none ∧ t.dec.outLen = out.length ∧ t.bytes .decOut out.length = out ∧
        BytesKept s t (entries s .decOut 0 out.length)) ∧
      (∀ k, dec (s.bytes .decIn len) = .error k →
        t.dec.err = some k ∧ t.dec.outLen = 0 ∧ t.decOut = s.decOut ∧ t.sysMem = s.sysMem ∧ BytesKept s t nothing)

/-- The model's choice (log 10), from R104, R106 and R103: a whole operation asked of a busy unit starts nothing; the
running operation goes on to done under its own length. -/
def Obligations.WholeOperationWhileBusyFinishesTheRunningOne : Prop :=
  ∀ (s : State) (n : Nat), Inv s → Provided s →
    (busy .enc s = true →
      ∃ t, exec (.encodeOp n) s = .next t ∧
        t.enc = { st := .done, len := s.enc.len, o := s.encM, outLen := s.encM } ∧ t.dec = s.dec) ∧
    (busy .dec s = true →
      ∃ t, exec (.decodeOp n) s = .next t ∧ t.dec.st = .done ∧ t.dec.len = s.dec.len ∧ t.enc = s.enc)

/-- R110: after an accepted START the unit's steps reach done, with the result the function of the input gives. -/
def Obligations.StepMachineComputesTheFunctions : Prop :=
  ∀ (s : State) (n : Nat), s.agenda = [] → busy .enc s = false → busy .dec s = false →
    (s.unsupported .enc = false → Config.lenInBound s.lenW .enc n = true →
      (∀ k, k < n → s.holds .encIn k = true) → (∀ k, k < 4 * ((n + 2) / 3) → s.holds .encOut k = true) →
      ∃ (t u : State) (k : Nat), exec (.encStart n) s = .next t ∧ Host.Core.run Sys2Proof.core k t = .next u ∧
        done .enc u = true ∧ u.bytes .encOut (4 * ((n + 2) / 3)) = enc (s.bytes .encIn n) ∧
        u.enc.outLen = 4 * ((n + 2) / 3)) ∧
    (s.unsupported .dec = false → Config.lenInBound s.lenW .dec n = true → (n % 4 = 0 → ∀ k, k < n → s.holds .decIn k = true) →
      (∀ out, dec (s.bytes .decIn n) = .ok out → ∀ k, k < out.length → s.holds .decOut k = true) →
      ∃ (t u : State) (k : Nat), exec (.decStart n) s = .next t ∧ Host.Core.run Sys2Proof.core k t = .next u ∧
        done .dec u = true ∧
        (∀ out, dec (s.bytes .decIn n) = .ok out →
          u.dec.err = none ∧ u.dec.outLen = out.length ∧ u.bytes .decOut out.length = out) ∧
        (∀ e, dec (s.bytes .decIn n) = .error e →
          u.dec.err = some e ∧ u.dec.outLen = 0 ∧ u.decOut = s.decOut ∧ u.sysMem = s.sysMem))

/-- R23, R222: two whole operations with the same length and the same input bytes end with the same registers and the
same result, whatever ran before. -/
def Obligations.NoStateSurvivesAnOperation : Prop :=
  ∀ (s s' t t' : State) (n : Nat), s.lenW = s'.lenW →
    (busy .enc s = false → busy .enc s' = false → s.bytes .encIn n = s'.bytes .encIn n →
      exec (.encodeOp n) s = .next t → exec (.encodeOp n) s' = .next t' →
      t.enc = t'.enc ∧ t.bytes .encOut t.enc.outLen = t'.bytes .encOut t'.enc.outLen) ∧
    (busy .dec s = false → busy .dec s' = false → s.bytes .decIn n = s'.bytes .decIn n →
      exec (.decodeOp n) s = .next t → exec (.decodeOp n) s' = .next t' →
      t.dec = t'.dec ∧ t.bytes .decOut t.dec.outLen = t'.bytes .decOut t'.dec.outLen)

/-! ## The operation level -/

/-- R113: decoding what was encoded gives it back. -/
def Obligations.RoundTrip : Prop :=
  ∀ b : List Byte, dec (enc b) = .ok b

/-- R114: the decoder accepts exactly the strings the encoder can produce, so both functions are injective. -/
def Obligations.AcceptsExactlyTheCanonicalStrings : Prop :=
  (∀ s out : List Byte, dec s = .ok out ↔ s = enc out) ∧
  (∀ s s' out : List Byte, dec s = .ok out → dec s' = .ok out → s = s') ∧
  (∀ b b' : List Byte, enc b = enc b' → b = b')

/-- R105: the length of `enc(b)`, the number of its `=`, and that every other character is a symbol. -/
def Obligations.EncodedLengthAndPadding : Prop :=
  ∀ b : List Byte,
    (enc b).length = 4 * ((b.length + 2) / 3) ∧ (enc b).length % 4 = 0 ∧
    (enc b).count 0x3D = (if b.length % 3 = 0 then 0 else if b.length % 3 = 1 then 2 else 1) ∧
    ∀ c ∈ enc b, c ≠ 0x3D → ∃ i : Idx, c = encLut i

/-- R147, R149: a string is accepted exactly when none of the four validation rules and no tail bit is against it. -/
def Obligations.AcceptanceIsTheFourRules : Prop :=
  ∀ s : List Byte,
    let L := s.length
    let c (k : Nat) := byteOf s k
    (∃ out, dec s = .ok out) ↔
      L = 0 ∨
      (L % 4 = 0 ∧ (∀ k, k < L → decLut (c k) ≠ 255) ∧ (∀ k, k + 2 < L → c k ≠ 0x3D) ∧
       (c (L - 2) = 0x3D → c (L - 1) = 0x3D) ∧
       (c (L - 2) = 0x3D → (decLut (c (L - 3))).toNat % 16 = 0) ∧
       (c (L - 2) ≠ 0x3D → c (L - 1) = 0x3D → (decLut (c (L - 2))).toNat % 4 = 0))

/-- R148, R195: which error is reported. The length comes first; then the first character that offends decides, an
invalid one with `InvalidCharacterError`. -/
def Obligations.FirstOffenderDecides : Prop :=
  ∀ s : List Byte,
    let L := s.length
    let c (k : Nat) := byteOf s k
    let tooEarly (k : Nat) := c k = 0x3D ∧ k + 2 < L
    let afterPad (k : Nat) := decLut (c k) ≤ 63 ∧ 0 < k ∧ c (k - 1) = 0x3D
    let offends (k : Nat) := decLut (c k) = 255 ∨ tooEarly k ∨ afterPad k
    (dec s = .error .lengthError ↔ L ≠ 0 ∧ L % 4 ≠ 0) ∧
    (dec s = .error .invalidCharacterError ↔
      L % 4 = 0 ∧ ∃ k, k < L ∧ decLut (c k) = 255 ∧ ∀ j, j < k → ¬ offends j) ∧
    (L % 4 = 0 → (∃ k, k < L ∧ decLut (c k) ≠ 255 ∧ offends k ∧ ∀ j, j < k → ¬ offends j) →
      dec s = .error .invalidPaddingError)

/-- R108, R121, R171: each field and each byte as a number; no bit is lost, and each `|` of the formulas is a sum. -/
def Obligations.DatapathLosesNoBit : Prop :=
  (∀ b0 b1 b2 : Byte,
    (idx0 b0).toNat = b0.toNat / 4 ∧ (idx1 b0 b1).toNat = b0.toNat % 4 * 16 + b1.toNat / 16 ∧
    (idx2 b1 b2).toNat = b1.toNat % 16 * 4 + b2.toNat / 64 ∧ (idx3 b2).toNat = b2.toNat % 64) ∧
  (∀ v0 v1 v2 v3 : Idx,
    (byte0 v0 v1).toNat = v0.toNat * 4 + v1.toNat / 16 ∧
    (byte1 v1 v2).toNat = v1.toNat % 16 * 16 + v2.toNat / 4 ∧
    (byte2 v2 v3).toNat = v2.toNat % 4 * 64 + v3.toNat)

/-- R51: the shift and mask formulas are the slices of the two 24-bit words. -/
def Obligations.FormulasAreSlices : Prop :=
  (∀ b0 b1 b2 : Byte,
    let G : Group := b0 ++ b1 ++ b2
    idx0 b0 = G.extractLsb' 18 6 ∧ idx1 b0 b1 = G.extractLsb' 12 6 ∧ idx2 b1 b2 = G.extractLsb' 6 6 ∧
    idx3 b2 = G.extractLsb' 0 6) ∧
  (∀ v0 v1 v2 v3 : Idx,
    let W : Group := v0 ++ v1 ++ v2 ++ v3
    byte0 v0 v1 = W.extractLsb' 16 8 ∧ byte1 v1 v2 = W.extractLsb' 8 8 ∧ byte2 v2 v3 = W.extractLsb' 0 8)

/-! ## Rules of the whole machine -/

/-- R62, R204: where no buffer of one unit shares an address with one of the other (R33, R231), an operation of the encoder and
one of the decoder give the same state in either order. -/
def Obligations.UnitsAreIndependent : Prop :=
  ∀ (e d : Instr) (s t u : State), OfEncoder e → OfDecoder d → s.unitsOverlap = false → exec e s = .next t → exec d t = .next u →
    ∃ t', exec d s = .next t' ∧ exec e t' = .next u

/-- R57, R33, R221: no operation changes a byte of an input buffer but one that shares an address with an output buffer (R231).
THE MODEL'S CHOICES (R7, R34 and R58 leave the parameters open): no operation changes `LEN_W` (log 1), `CSR_MAP` or `BUF_MAP`
(log 18), or makes an entry exist or vanish (log 2). -/
def Obligations.NoOperationWritesAnInputBuffer : Prop :=
  ∀ (i : Instr) (s t : State), exec i s = .next t →
    t.encIn = s.encIn ∧ t.decIn = s.decIn ∧
    (∀ u k, (∀ v j, s.sameEntry (outSpace v) j (inSpace u) k = false) →
      t.byteAt (inSpace u) k = s.byteAt (inSpace u) k) ∧
    t.lenW = s.lenW ∧ t.csrMap = s.csrMap ∧ t.bufMap = s.bufMap ∧ ∀ sp k, t.holds sp k = s.holds sp k

/-- R196, R197: no operation but a whole DECODE makes an error appear outside `CHECK` and `SCAN`, and when one appears the
error entry is all that happens: `err`, `OUT_LEN` and `st`, with `DEC.OUT` and everything else untouched. -/
def Obligations.ErrorsAppearOnlyInValidation : Prop :=
  ∀ (i : Instr) (s t : State) (k : ErrKind), (∀ n, i ≠ .decodeOp n) → exec i s = .next t → s.dec.err = none →
    t.dec.err = some k →
    (s.dec.st = .check ∨ s.dec.st = .scan) ∧ t = s.setDec { s.dec with err := some k, outLen := 0, st := .done }

/-- R25: `busy` and `done` are never both 1, and both are 0 exactly in `IDLE`. -/
def Obligations.BusyAndDoneExclude : Prop :=
  ∀ s : State,
    (∀ u, ¬ (busy u s = true ∧ done u s = true)) ∧
    (busy .enc s = false ∧ done .enc s = false ↔ s.enc.st = .idle) ∧
    (busy .dec s = false ∧ done .dec s = false ↔ s.dec.st = .idle) ∧
    (busy .enc s = true ↔ s.enc.st = .run) ∧
    (busy .dec s = true ↔ s.dec.st = .check ∨ s.dec.st = .scan ∨ s.dec.st = .repack)

/-- R29: the values `STATUS` can have. -/
def Obligations.StatusTakesLegalValuesOnly : Prop :=
  ∀ s : State, Inv s →
    status .enc s ∈ [(0b0000 : BitVec 4), 0b0001, 0b0010] ∧
    status .dec s ∈ [(0b0000 : BitVec 4), 0b0001, 0b0010, 0b0110, 0b1010, 0b1110]

/-- R27 to R30: the host reads `CTRL` as 0, `LEN`, `STATUS` and `OUT_LEN` at any time and changes nothing by it; a write of
a read-only register, or of `CTRL` with `start` = 0, changes nothing. By address (R58, log 18): where `CSR_MAP` and `BUF_MAP`
place exactly a register, an access is that of the register; where a register shares its address, where nothing stands, and
for what R100 does not give the host (a read of `IN`, a write of `OUT`, more than a byte to `IN`), it is refused. Where both `OUT`
buffers share the address it is read as the encoder's if that is done and as the decoder's otherwise, and where both `IN`
buffers do, one write is of both. That answers stand in `hostData` is log 15. -/
def Obligations.RegisterAccesses : Prop :=
  ∀ (s : State) (u : UnitId) (rest : List Input),
    let t := { s with agenda := rest }
    (s.agenda = .readReg u 0 :: rest → step s = .next { t with hostData := 0 }) ∧
    (s.agenda = .readReg u 1 :: rest → step s = .next { t with hostData := lenReg u s }) ∧
    (s.agenda = .readReg u 2 :: rest → step s = .next { t with hostData := (status u s).toNat }) ∧
    (s.agenda = .readReg u 3 :: rest → step s = .next { t with hostData := outLenReg u s }) ∧
    (∀ reg w, reg ≠ 0 → s.agenda = .writeReg u reg w false :: rest → step s = .next t) ∧
    (∀ len, Config.fitsLen s.lenW len = true → s.agenda = .writeReg u 0 (2 * len) false :: rest → step s = .next t) ∧
    (∀ a reg, s.placesAt a = [.reg u reg] →
      (s.agenda = .busRead a :: rest → step s = step { s with agenda := .readReg u reg :: rest }) ∧
      (∀ w, s.agenda = .busWrite a w :: rest → step s = step { s with agenda := .writeReg u reg w false :: rest })) ∧
    (∀ a, s.registersAt a ≠ [] → (∀ p, s.placesAt a ≠ [p]) →
      (s.agenda = .busRead a :: rest → step s = .refused (.noSuchBusAccess a)) ∧
      (∀ w, s.agenda = .busWrite a w :: rest → step s = .refused (.noSuchBusAccess a))) ∧
    (∀ a, s.registersAt a = [] →
      (s.agenda = .busRead a :: rest → s.placedIn .encOut a = false → s.placedIn .decOut a = false →
        step s = .refused (.noSuchBusAccess a)) ∧
      (∀ w, s.agenda = .busWrite a w :: rest → s.placedIn .encIn a = false → s.placedIn .decIn a = false →
        step s = .refused (.noSuchBusAccess a)) ∧
      (∀ w, 256 ≤ w → s.agenda = .busWrite a w :: rest → step s = .refused (.noSuchBusAccess a)) ∧
      (∀ k j, s.agenda = .busRead a :: rest → s.readableAt a = [.entry .encOut k, .entry .decOut j] →
        step s = step { s with agenda := (if encDone s then .readOut .enc k else .readOut .dec j) :: rest }) ∧
      (∀ k j (v : Byte), s.agenda = .busWrite a v.toNat :: rest →
        s.writableAt a = [.entry .encIn k, .entry .decIn j] →
        step s = step { s with agenda := .writeIn .enc k v :: rest }))

/-- R100, R228: the host's write of `U.IN`, by index or, where `BUF_MAP` places the entry (R58, log 18), by address. While the
unit is busy it has no meaning (log 8), nor has one into a buffer of the other unit while that is busy (R231, log 18). Otherwise
it takes effect, THE MODEL'S CHOICE being that it does so at every index that the capacity allows, also at or above `2^LEN_W`
(log 2), on that entry and those that share its address. -/
def Obligations.HostWritesTheInputBuffer : Prop :=
  ∀ (s : State) (u : UnitId) (k : Nat) (v : Byte) (rest : List Input),
    (s.agenda = .writeIn u k v :: rest ∨
      ∃ a, s.agenda = .busWrite a v.toNat :: rest ∧ s.writableAt a = [.entry (inSpace u) k]) →
    let used (sp : Space) := busy (otherUnit u) s && s.touches (inSpace u) k sp
    (busy u s = true → step s = .refused (.inputWrittenWhileBusy u)) ∧
    (busy u s = false → used (inSpace (otherUnit u)) = true →
      step s = .refused (.inputWrittenWhileBusy (otherUnit u))) ∧
    (busy u s = false → used (inSpace (otherUnit u)) = false → used (outSpace (otherUnit u)) = true →
      step s = .refused (.overlappingBuffers (otherUnit u))) ∧
    (busy u s = false → used (inSpace (otherUnit u)) = false → used (outSpace (otherUnit u)) = false →
      s.holds (inSpace u) k = true →
      ∃ t, step s = .next t ∧ t.byteAt (inSpace u) k = v ∧
        (∀ sp j, s.sameEntry (inSpace u) k sp j = true → t.byteAt sp j = v) ∧ t.enc = s.enc ∧ t.dec = s.dec ∧
        BytesKept s t (entries s (inSpace u) k 1) ∧ ModelKept { s with agenda := rest } t)

/-- R100, R61, R229: the host's read of `U.OUT`, by index or, where `BUF_MAP` places the entry (R58, log 18), by address. With
`done` = 1 it gives the byte; before, and while the other unit is busy with an `OUT` buffer that shares the byte, the read
completes, its value is left open (log 7), and nothing the spec names changes. THE MODEL'S CHOICES: the read reaches every index
that the capacity allows, also at or above `2^LEN_W` (log 2), and its answer stands in `hostData` (log 15). -/
def Obligations.HostReadsTheOutputBuffer : Prop :=
  ∀ (s : State) (u : UnitId) (k : Nat) (rest : List Input),
    (s.agenda = .readOut u k :: rest ∨
      ∃ a, s.agenda = .busRead a :: rest ∧ s.readableAt a = [.entry (outSpace u) k]) →
    let used := busy (otherUnit u) s && s.touches (outSpace u) k (outSpace (otherUnit u))
    (done u s = true → used = false → s.holds (outSpace u) k = true →
      step s = .next { s with agenda := rest, hostData := (s.byteAt (outSpace u) k).toNat }) ∧
    (done u s = false ∨ used = true →
      ∃ v : Byte, step s = .next { s with agenda := rest, hostData := v.toNat, fresh := s.fresh + 1 })

/-! ## Invariants -/

/-- The invariant holds after reset (R37). -/
def Obligations.InvariantAtReset : Prop := Inv State.reset

/-- R130, R150, R178, R22, R21: every step keeps the invariant, whatever input it takes. -/
def Obligations.EveryStepKeepsTheInvariant : Prop :=
  ∀ s t : State, Inv s → step s = .next t → Inv t

/-- R88, R177, R84: from a state that meets the invariant no step stops in a fault: the patterns, groups and values that
the spec says cannot occur do not occur. -/
def Obligations.InvariantStatesAreSafe : Prop :=
  ∀ s : State, Inv s → Safe s

/-- R130: every step keeps `ENC.OUT[k] = enc(b)[k]` for every `k < ENC.o` of a running encode. -/
def Obligations.EncodedPrefixIsKept : Prop :=
  ∀ s t : State, Inv s → EncOutCorrect s → step s = .next t → EncOutCorrect t

/-- R178: every step keeps `DEC.OUT[k] = out[k]` for every `k < min(3*DEC.g, len(out))` of a repacking decode. -/
def Obligations.DecodedPrefixIsKept : Prop :=
  ∀ s t : State, Inv s → DecOutCorrect s → step s = .next t → DecOutCorrect t

/-- R7, R24: under the invariant no counter and no length leaves the `LEN_W` bits of its register. -/
def Obligations.CountersFitTheirRegisters : Prop :=
  ∀ s : State, Inv s →
    ∀ x ∈ [s.enc.len, s.enc.o, s.enc.outLen, s.dec.len, s.dec.i, s.dec.g, s.dec.outLen],
      Config.fitsLen s.lenW x = true

/-- R24, R234: when no input comes and the buffers are large enough, both units come to rest, in whatever order their
steps are taken. -/
def Obligations.BothUnitsComeToRest : Prop :=
  ∀ s : State, Inv s → s.agenda = [] → Provided s →
    ∃ (k : Nat) (u : State), Host.Core.run Sys2Proof.core k s = .next u ∧ busy .enc u = false ∧ busy .dec u = false
end

