-- ==== Sys2Proof/Laws/Decode.lean ====
section
/-! SUPPORT. Lemmas about the decoder and the encoder. -/

namespace Sys2Proof

/-- A command word carries its operand back whenever the operand fits the field (R71). -/
theorem commandLen_commandWord (lenW : Option Nat) (len : Nat) (h : Config.fitsLen lenW len = true) :
    commandLen lenW (commandWord len) = .ok len := by
  have h1 : (2 * len + 1) / 2 = len := by omega
  have h2 : (2 * len + 1) % 2 = 1 := by omega
  simp [commandLen, commandWord, h1, h2, h]

/-- A decoded CMD operand comes from that operand's command word, and fits its field (R71). -/
theorem commandLen_ok {lenW : Option Nat} {w len : Nat} (h : commandLen lenW w = .ok len) :
    w = commandWord len ∧ Config.fitsLen lenW len = true := by
  unfold commandLen at h
  split at h
  · split at h
    · cases h
      exact ⟨by unfold commandWord; omega, ‹_›⟩
    · cases h
  · cases h

end Sys2Proof
end

