-- ==== Sys2Proof/Laws/State.lean ====
section
/-! SUPPORT. One lemma per field per update of State, and what each update does to the machine's ways of reading a
buffer (`mem`, `byteAt`, `holds`), so that no later proof unfolds an update. -/

namespace Sys2Proof.Machine

variable (s : State)

@[simp] theorem State.setEnc_enc (r : EncRegs) : (s.setEnc r).enc = r := rfl
@[simp] theorem State.setEnc_dec (r : EncRegs) : (s.setEnc r).dec = s.dec := rfl
@[simp] theorem State.setEnc_encIn (r : EncRegs) : (s.setEnc r).encIn = s.encIn := rfl
@[simp] theorem State.setEnc_encOut (r : EncRegs) : (s.setEnc r).encOut = s.encOut := rfl
@[simp] theorem State.setEnc_decIn (r : EncRegs) : (s.setEnc r).decIn = s.decIn := rfl
@[simp] theorem State.setEnc_decOut (r : EncRegs) : (s.setEnc r).decOut = s.decOut := rfl
@[simp] theorem State.setEnc_lenW (r : EncRegs) : (s.setEnc r).lenW = s.lenW := rfl
@[simp] theorem State.setEnc_csrMap (r : EncRegs) : (s.setEnc r).csrMap = s.csrMap := rfl
@[simp] theorem State.setEnc_bufMap (r : EncRegs) : (s.setEnc r).bufMap = s.bufMap := rfl
@[simp] theorem State.setEnc_sysMem (r : EncRegs) : (s.setEnc r).sysMem = s.sysMem := rfl
@[simp] theorem State.setEnc_agenda (r : EncRegs) : (s.setEnc r).agenda = s.agenda := rfl
@[simp] theorem State.setEnc_hostData (r : EncRegs) : (s.setEnc r).hostData = s.hostData := rfl
@[simp] theorem State.setEnc_lutData (r : EncRegs) : (s.setEnc r).lutData = s.lutData := rfl
@[simp] theorem State.setEnc_fresh (r : EncRegs) : (s.setEnc r).fresh = s.fresh := rfl
@[simp] theorem State.setEnc_mem (r : EncRegs) (sp : Space) : (s.setEnc r).mem sp = s.mem sp := by cases sp <;> rfl
@[simp] theorem State.setEnc_addrOf (r : EncRegs) (sp : Space) (j : Nat) : (s.setEnc r).addrOf sp j = s.addrOf sp j := rfl
@[simp] theorem State.setEnc_placedIn (r : EncRegs) (sp : Space) (a : Nat) : (s.setEnc r).placedIn sp a = s.placedIn sp a := rfl
@[simp] theorem State.setEnc_overlap (r : EncRegs) (sp sp₂ : Space) : (s.setEnc r).overlap sp sp₂ = s.overlap sp sp₂ := rfl
@[simp] theorem State.setEnc_sysByte (r : EncRegs) (a : Nat) : (s.setEnc r).sysByte a = s.sysByte a := rfl
@[simp] theorem State.setEnc_byteAt (r : EncRegs) (sp : Space) (j : Nat) : (s.setEnc r).byteAt sp j = s.byteAt sp j := by
  cases sp <;> rfl
@[simp] theorem State.setEnc_holds (r : EncRegs) (sp : Space) (j : Nat) : (s.setEnc r).holds sp j = s.holds sp j := by
  cases sp <;> rfl

@[simp] theorem State.setDec_enc (r : DecRegs) : (s.setDec r).enc = s.enc := rfl
@[simp] theorem State.setDec_dec (r : DecRegs) : (s.setDec r).dec = r := rfl
@[simp] theorem State.setDec_encIn (r : DecRegs) : (s.setDec r).encIn = s.encIn := rfl
@[simp] theorem State.setDec_encOut (r : DecRegs) : (s.setDec r).encOut = s.encOut := rfl
@[simp] theorem State.setDec_decIn (r : DecRegs) : (s.setDec r).decIn = s.decIn := rfl
@[simp] theorem State.setDec_decOut (r : DecRegs) : (s.setDec r).decOut = s.decOut := rfl
@[simp] theorem State.setDec_lenW (r : DecRegs) : (s.setDec r).lenW = s.lenW := rfl
@[simp] theorem State.setDec_csrMap (r : DecRegs) : (s.setDec r).csrMap = s.csrMap := rfl
@[simp] theorem State.setDec_bufMap (r : DecRegs) : (s.setDec r).bufMap = s.bufMap := rfl
@[simp] theorem State.setDec_sysMem (r : DecRegs) : (s.setDec r).sysMem = s.sysMem := rfl
@[simp] theorem State.setDec_agenda (r : DecRegs) : (s.setDec r).agenda = s.agenda := rfl
@[simp] theorem State.setDec_hostData (r : DecRegs) : (s.setDec r).hostData = s.hostData := rfl
@[simp] theorem State.setDec_lutData (r : DecRegs) : (s.setDec r).lutData = s.lutData := rfl
@[simp] theorem State.setDec_fresh (r : DecRegs) : (s.setDec r).fresh = s.fresh := rfl
@[simp] theorem State.setDec_mem (r : DecRegs) (sp : Space) : (s.setDec r).mem sp = s.mem sp := by cases sp <;> rfl
@[simp] theorem State.setDec_addrOf (r : DecRegs) (sp : Space) (j : Nat) : (s.setDec r).addrOf sp j = s.addrOf sp j := rfl
@[simp] theorem State.setDec_placedIn (r : DecRegs) (sp : Space) (a : Nat) : (s.setDec r).placedIn sp a = s.placedIn sp a := rfl
@[simp] theorem State.setDec_overlap (r : DecRegs) (sp sp₂ : Space) : (s.setDec r).overlap sp sp₂ = s.overlap sp sp₂ := rfl
@[simp] theorem State.setDec_sysByte (r : DecRegs) (a : Nat) : (s.setDec r).sysByte a = s.sysByte a := rfl
@[simp] theorem State.setDec_byteAt (r : DecRegs) (sp : Space) (j : Nat) : (s.setDec r).byteAt sp j = s.byteAt sp j := by
  cases sp <;> rfl
@[simp] theorem State.setDec_holds (r : DecRegs) (sp : Space) (j : Nat) : (s.setDec r).holds sp j = s.holds sp j := by
  cases sp <;> rfl

@[simp] theorem State.setEncO_enc (o : Nat) : (s.setEncO o).enc = { s.enc with o := o } := rfl
@[simp] theorem State.setEncO_dec (o : Nat) : (s.setEncO o).dec = s.dec := rfl
@[simp] theorem State.setEncO_encIn (o : Nat) : (s.setEncO o).encIn = s.encIn := rfl
@[simp] theorem State.setEncO_encOut (o : Nat) : (s.setEncO o).encOut = s.encOut := rfl
@[simp] theorem State.setEncO_decIn (o : Nat) : (s.setEncO o).decIn = s.decIn := rfl
@[simp] theorem State.setEncO_decOut (o : Nat) : (s.setEncO o).decOut = s.decOut := rfl
@[simp] theorem State.setEncO_lenW (o : Nat) : (s.setEncO o).lenW = s.lenW := rfl
@[simp] theorem State.setEncO_csrMap (o : Nat) : (s.setEncO o).csrMap = s.csrMap := rfl
@[simp] theorem State.setEncO_bufMap (o : Nat) : (s.setEncO o).bufMap = s.bufMap := rfl
@[simp] theorem State.setEncO_sysMem (o : Nat) : (s.setEncO o).sysMem = s.sysMem := rfl
@[simp] theorem State.setEncO_agenda (o : Nat) : (s.setEncO o).agenda = s.agenda := rfl
@[simp] theorem State.setEncO_hostData (o : Nat) : (s.setEncO o).hostData = s.hostData := rfl
@[simp] theorem State.setEncO_lutData (o : Nat) : (s.setEncO o).lutData = s.lutData := rfl
@[simp] theorem State.setEncO_fresh (o : Nat) : (s.setEncO o).fresh = s.fresh := rfl
@[simp] theorem State.setEncO_mem (o : Nat) (sp : Space) : (s.setEncO o).mem sp = s.mem sp := by cases sp <;> rfl
@[simp] theorem State.setEncO_addrOf (o : Nat) (sp : Space) (j : Nat) : (s.setEncO o).addrOf sp j = s.addrOf sp j := rfl
@[simp] theorem State.setEncO_placedIn (o : Nat) (sp : Space) (a : Nat) : (s.setEncO o).placedIn sp a = s.placedIn sp a := rfl
@[simp] theorem State.setEncO_overlap (o : Nat) (sp sp₂ : Space) : (s.setEncO o).overlap sp sp₂ = s.overlap sp sp₂ := rfl
@[simp] theorem State.setEncO_sysByte (o : Nat) (a : Nat) : (s.setEncO o).sysByte a = s.sysByte a := rfl
@[simp] theorem State.setEncO_byteAt (o : Nat) (sp : Space) (j : Nat) : (s.setEncO o).byteAt sp j = s.byteAt sp j := by
  cases sp <;> rfl
@[simp] theorem State.setEncO_holds (o : Nat) (sp : Space) (j : Nat) : (s.setEncO o).holds sp j = s.holds sp j := by
  cases sp <;> rfl

@[simp] theorem State.setDecI_enc (i : Nat) : (s.setDecI i).enc = s.enc := rfl
@[simp] theorem State.setDecI_dec (i : Nat) : (s.setDecI i).dec = { s.dec with i := i } := rfl
@[simp] theorem State.setDecI_encIn (i : Nat) : (s.setDecI i).encIn = s.encIn := rfl
@[simp] theorem State.setDecI_encOut (i : Nat) : (s.setDecI i).encOut = s.encOut := rfl
@[simp] theorem State.setDecI_decIn (i : Nat) : (s.setDecI i).decIn = s.decIn := rfl
@[simp] theorem State.setDecI_decOut (i : Nat) : (s.setDecI i).decOut = s.decOut := rfl
@[simp] theorem State.setDecI_lenW (i : Nat) : (s.setDecI i).lenW = s.lenW := rfl
@[simp] theorem State.setDecI_csrMap (i : Nat) : (s.setDecI i).csrMap = s.csrMap := rfl
@[simp] theorem State.setDecI_bufMap (i : Nat) : (s.setDecI i).bufMap = s.bufMap := rfl
@[simp] theorem State.setDecI_sysMem (i : Nat) : (s.setDecI i).sysMem = s.sysMem := rfl
@[simp] theorem State.setDecI_agenda (i : Nat) : (s.setDecI i).agenda = s.agenda := rfl
@[simp] theorem State.setDecI_hostData (i : Nat) : (s.setDecI i).hostData = s.hostData := rfl
@[simp] theorem State.setDecI_lutData (i : Nat) : (s.setDecI i).lutData = s.lutData := rfl
@[simp] theorem State.setDecI_fresh (i : Nat) : (s.setDecI i).fresh = s.fresh := rfl
@[simp] theorem State.setDecI_mem (i : Nat) (sp : Space) : (s.setDecI i).mem sp = s.mem sp := by cases sp <;> rfl
@[simp] theorem State.setDecI_addrOf (i : Nat) (sp : Space) (j : Nat) : (s.setDecI i).addrOf sp j = s.addrOf sp j := rfl
@[simp] theorem State.setDecI_placedIn (i : Nat) (sp : Space) (a : Nat) : (s.setDecI i).placedIn sp a = s.placedIn sp a := rfl
@[simp] theorem State.setDecI_overlap (i : Nat) (sp sp₂ : Space) : (s.setDecI i).overlap sp sp₂ = s.overlap sp sp₂ := rfl
@[simp] theorem State.setDecI_sysByte (i : Nat) (a : Nat) : (s.setDecI i).sysByte a = s.sysByte a := rfl
@[simp] theorem State.setDecI_byteAt (i : Nat) (sp : Space) (j : Nat) : (s.setDecI i).byteAt sp j = s.byteAt sp j := by
  cases sp <;> rfl
@[simp] theorem State.setDecI_holds (i : Nat) (sp : Space) (j : Nat) : (s.setDecI i).holds sp j = s.holds sp j := by
  cases sp <;> rfl

@[simp] theorem State.setDecPrev_enc (v : Idx) : (s.setDecPrev v).enc = s.enc := rfl
@[simp] theorem State.setDecPrev_dec (v : Idx) : (s.setDecPrev v).dec = { s.dec with prev := v } := rfl
@[simp] theorem State.setDecPrev_encIn (v : Idx) : (s.setDecPrev v).encIn = s.encIn := rfl
@[simp] theorem State.setDecPrev_encOut (v : Idx) : (s.setDecPrev v).encOut = s.encOut := rfl
@[simp] theorem State.setDecPrev_decIn (v : Idx) : (s.setDecPrev v).decIn = s.decIn := rfl
@[simp] theorem State.setDecPrev_decOut (v : Idx) : (s.setDecPrev v).decOut = s.decOut := rfl
@[simp] theorem State.setDecPrev_lenW (v : Idx) : (s.setDecPrev v).lenW = s.lenW := rfl
@[simp] theorem State.setDecPrev_csrMap (v : Idx) : (s.setDecPrev v).csrMap = s.csrMap := rfl
@[simp] theorem State.setDecPrev_bufMap (v : Idx) : (s.setDecPrev v).bufMap = s.bufMap := rfl
@[simp] theorem State.setDecPrev_sysMem (v : Idx) : (s.setDecPrev v).sysMem = s.sysMem := rfl
@[simp] theorem State.setDecPrev_agenda (v : Idx) : (s.setDecPrev v).agenda = s.agenda := rfl
@[simp] theorem State.setDecPrev_hostData (v : Idx) : (s.setDecPrev v).hostData = s.hostData := rfl
@[simp] theorem State.setDecPrev_lutData (v : Idx) : (s.setDecPrev v).lutData = s.lutData := rfl
@[simp] theorem State.setDecPrev_fresh (v : Idx) : (s.setDecPrev v).fresh = s.fresh := rfl
@[simp] theorem State.setDecPrev_mem (v : Idx) (sp : Space) : (s.setDecPrev v).mem sp = s.mem sp := by cases sp <;> rfl
@[simp] theorem State.setDecPrev_addrOf (v : Idx) (sp : Space) (j : Nat) : (s.setDecPrev v).addrOf sp j = s.addrOf sp j := rfl
@[simp] theorem State.setDecPrev_placedIn (v : Idx) (sp : Space) (a : Nat) : (s.setDecPrev v).placedIn sp a = s.placedIn sp a := rfl
@[simp] theorem State.setDecPrev_overlap (v : Idx) (sp sp₂ : Space) : (s.setDecPrev v).overlap sp sp₂ = s.overlap sp sp₂ := rfl
@[simp] theorem State.setDecPrev_sysByte (v : Idx) (a : Nat) : (s.setDecPrev v).sysByte a = s.sysByte a := rfl
@[simp] theorem State.setDecPrev_byteAt (v : Idx) (sp : Space) (j : Nat) : (s.setDecPrev v).byteAt sp j = s.byteAt sp j := by
  cases sp <;> rfl
@[simp] theorem State.setDecPrev_holds (v : Idx) (sp : Space) (j : Nat) : (s.setDecPrev v).holds sp j = s.holds sp j := by
  cases sp <;> rfl

@[simp] theorem State.setDecPad_enc (p : Fin 3) : (s.setDecPad p).enc = s.enc := rfl
@[simp] theorem State.setDecPad_dec (p : Fin 3) : (s.setDecPad p).dec = { s.dec with pad := p } := rfl
@[simp] theorem State.setDecPad_encIn (p : Fin 3) : (s.setDecPad p).encIn = s.encIn := rfl
@[simp] theorem State.setDecPad_encOut (p : Fin 3) : (s.setDecPad p).encOut = s.encOut := rfl
@[simp] theorem State.setDecPad_decIn (p : Fin 3) : (s.setDecPad p).decIn = s.decIn := rfl
@[simp] theorem State.setDecPad_decOut (p : Fin 3) : (s.setDecPad p).decOut = s.decOut := rfl
@[simp] theorem State.setDecPad_lenW (p : Fin 3) : (s.setDecPad p).lenW = s.lenW := rfl
@[simp] theorem State.setDecPad_csrMap (p : Fin 3) : (s.setDecPad p).csrMap = s.csrMap := rfl
@[simp] theorem State.setDecPad_bufMap (p : Fin 3) : (s.setDecPad p).bufMap = s.bufMap := rfl
@[simp] theorem State.setDecPad_sysMem (p : Fin 3) : (s.setDecPad p).sysMem = s.sysMem := rfl
@[simp] theorem State.setDecPad_agenda (p : Fin 3) : (s.setDecPad p).agenda = s.agenda := rfl
@[simp] theorem State.setDecPad_hostData (p : Fin 3) : (s.setDecPad p).hostData = s.hostData := rfl
@[simp] theorem State.setDecPad_lutData (p : Fin 3) : (s.setDecPad p).lutData = s.lutData := rfl
@[simp] theorem State.setDecPad_fresh (p : Fin 3) : (s.setDecPad p).fresh = s.fresh := rfl
@[simp] theorem State.setDecPad_mem (p : Fin 3) (sp : Space) : (s.setDecPad p).mem sp = s.mem sp := by cases sp <;> rfl
@[simp] theorem State.setDecPad_addrOf (p : Fin 3) (sp : Space) (j : Nat) : (s.setDecPad p).addrOf sp j = s.addrOf sp j := rfl
@[simp] theorem State.setDecPad_placedIn (p : Fin 3) (sp : Space) (a : Nat) : (s.setDecPad p).placedIn sp a = s.placedIn sp a := rfl
@[simp] theorem State.setDecPad_overlap (p : Fin 3) (sp sp₂ : Space) : (s.setDecPad p).overlap sp sp₂ = s.overlap sp sp₂ := rfl
@[simp] theorem State.setDecPad_sysByte (p : Fin 3) (a : Nat) : (s.setDecPad p).sysByte a = s.sysByte a := rfl
@[simp] theorem State.setDecPad_byteAt (p : Fin 3) (sp : Space) (j : Nat) : (s.setDecPad p).byteAt sp j = s.byteAt sp j := by
  cases sp <;> rfl
@[simp] theorem State.setDecPad_holds (p : Fin 3) (sp : Space) (j : Nat) : (s.setDecPad p).holds sp j = s.holds sp j := by
  cases sp <;> rfl

@[simp] theorem State.setDecTailbad_enc (b : Bool) : (s.setDecTailbad b).enc = s.enc := rfl
@[simp] theorem State.setDecTailbad_dec (b : Bool) : (s.setDecTailbad b).dec = { s.dec with tailbad := b } := rfl
@[simp] theorem State.setDecTailbad_encIn (b : Bool) : (s.setDecTailbad b).encIn = s.encIn := rfl
@[simp] theorem State.setDecTailbad_encOut (b : Bool) : (s.setDecTailbad b).encOut = s.encOut := rfl
@[simp] theorem State.setDecTailbad_decIn (b : Bool) : (s.setDecTailbad b).decIn = s.decIn := rfl
@[simp] theorem State.setDecTailbad_decOut (b : Bool) : (s.setDecTailbad b).decOut = s.decOut := rfl
@[simp] theorem State.setDecTailbad_lenW (b : Bool) : (s.setDecTailbad b).lenW = s.lenW := rfl
@[simp] theorem State.setDecTailbad_csrMap (b : Bool) : (s.setDecTailbad b).csrMap = s.csrMap := rfl
@[simp] theorem State.setDecTailbad_bufMap (b : Bool) : (s.setDecTailbad b).bufMap = s.bufMap := rfl
@[simp] theorem State.setDecTailbad_sysMem (b : Bool) : (s.setDecTailbad b).sysMem = s.sysMem := rfl
@[simp] theorem State.setDecTailbad_agenda (b : Bool) : (s.setDecTailbad b).agenda = s.agenda := rfl
@[simp] theorem State.setDecTailbad_hostData (b : Bool) : (s.setDecTailbad b).hostData = s.hostData := rfl
@[simp] theorem State.setDecTailbad_lutData (b : Bool) : (s.setDecTailbad b).lutData = s.lutData := rfl
@[simp] theorem State.setDecTailbad_fresh (b : Bool) : (s.setDecTailbad b).fresh = s.fresh := rfl
@[simp] theorem State.setDecTailbad_mem (b : Bool) (sp : Space) : (s.setDecTailbad b).mem sp = s.mem sp := by cases sp <;> rfl
@[simp] theorem State.setDecTailbad_addrOf (b : Bool) (sp : Space) (j : Nat) : (s.setDecTailbad b).addrOf sp j = s.addrOf sp j := rfl
@[simp] theorem State.setDecTailbad_placedIn (b : Bool) (sp : Space) (a : Nat) : (s.setDecTailbad b).placedIn sp a = s.placedIn sp a := rfl
@[simp] theorem State.setDecTailbad_overlap (b : Bool) (sp sp₂ : Space) : (s.setDecTailbad b).overlap sp sp₂ = s.overlap sp sp₂ := rfl
@[simp] theorem State.setDecTailbad_sysByte (b : Bool) (a : Nat) : (s.setDecTailbad b).sysByte a = s.sysByte a := rfl
@[simp] theorem State.setDecTailbad_byteAt (b : Bool) (sp : Space) (j : Nat) : (s.setDecTailbad b).byteAt sp j = s.byteAt sp j := by
  cases sp <;> rfl
@[simp] theorem State.setDecTailbad_holds (b : Bool) (sp : Space) (j : Nat) : (s.setDecTailbad b).holds sp j = s.holds sp j := by
  cases sp <;> rfl

@[simp] theorem State.setDecG_enc (g : Nat) : (s.setDecG g).enc = s.enc := rfl
@[simp] theorem State.setDecG_dec (g : Nat) : (s.setDecG g).dec = { s.dec with g := g } := rfl
@[simp] theorem State.setDecG_encIn (g : Nat) : (s.setDecG g).encIn = s.encIn := rfl
@[simp] theorem State.setDecG_encOut (g : Nat) : (s.setDecG g).encOut = s.encOut := rfl
@[simp] theorem State.setDecG_decIn (g : Nat) : (s.setDecG g).decIn = s.decIn := rfl
@[simp] theorem State.setDecG_decOut (g : Nat) : (s.setDecG g).decOut = s.decOut := rfl
@[simp] theorem State.setDecG_lenW (g : Nat) : (s.setDecG g).lenW = s.lenW := rfl
@[simp] theorem State.setDecG_csrMap (g : Nat) : (s.setDecG g).csrMap = s.csrMap := rfl
@[simp] theorem State.setDecG_bufMap (g : Nat) : (s.setDecG g).bufMap = s.bufMap := rfl
@[simp] theorem State.setDecG_sysMem (g : Nat) : (s.setDecG g).sysMem = s.sysMem := rfl
@[simp] theorem State.setDecG_agenda (g : Nat) : (s.setDecG g).agenda = s.agenda := rfl
@[simp] theorem State.setDecG_hostData (g : Nat) : (s.setDecG g).hostData = s.hostData := rfl
@[simp] theorem State.setDecG_lutData (g : Nat) : (s.setDecG g).lutData = s.lutData := rfl
@[simp] theorem State.setDecG_fresh (g : Nat) : (s.setDecG g).fresh = s.fresh := rfl
@[simp] theorem State.setDecG_mem (g : Nat) (sp : Space) : (s.setDecG g).mem sp = s.mem sp := by cases sp <;> rfl
@[simp] theorem State.setDecG_addrOf (g : Nat) (sp : Space) (j : Nat) : (s.setDecG g).addrOf sp j = s.addrOf sp j := rfl
@[simp] theorem State.setDecG_placedIn (g : Nat) (sp : Space) (a : Nat) : (s.setDecG g).placedIn sp a = s.placedIn sp a := rfl
@[simp] theorem State.setDecG_overlap (g : Nat) (sp sp₂ : Space) : (s.setDecG g).overlap sp sp₂ = s.overlap sp sp₂ := rfl
@[simp] theorem State.setDecG_sysByte (g : Nat) (a : Nat) : (s.setDecG g).sysByte a = s.sysByte a := rfl
@[simp] theorem State.setDecG_byteAt (g : Nat) (sp : Space) (j : Nat) : (s.setDecG g).byteAt sp j = s.byteAt sp j := by
  cases sp <;> rfl
@[simp] theorem State.setDecG_holds (g : Nat) (sp : Space) (j : Nat) : (s.setDecG g).holds sp j = s.holds sp j := by
  cases sp <;> rfl

@[simp] theorem State.setDecSt_enc (x : DecSt) : (s.setDecSt x).enc = s.enc := rfl
@[simp] theorem State.setDecSt_dec (x : DecSt) : (s.setDecSt x).dec = { s.dec with st := x } := rfl
@[simp] theorem State.setDecSt_encIn (x : DecSt) : (s.setDecSt x).encIn = s.encIn := rfl
@[simp] theorem State.setDecSt_encOut (x : DecSt) : (s.setDecSt x).encOut = s.encOut := rfl
@[simp] theorem State.setDecSt_decIn (x : DecSt) : (s.setDecSt x).decIn = s.decIn := rfl
@[simp] theorem State.setDecSt_decOut (x : DecSt) : (s.setDecSt x).decOut = s.decOut := rfl
@[simp] theorem State.setDecSt_lenW (x : DecSt) : (s.setDecSt x).lenW = s.lenW := rfl
@[simp] theorem State.setDecSt_csrMap (x : DecSt) : (s.setDecSt x).csrMap = s.csrMap := rfl
@[simp] theorem State.setDecSt_bufMap (x : DecSt) : (s.setDecSt x).bufMap = s.bufMap := rfl
@[simp] theorem State.setDecSt_sysMem (x : DecSt) : (s.setDecSt x).sysMem = s.sysMem := rfl
@[simp] theorem State.setDecSt_agenda (x : DecSt) : (s.setDecSt x).agenda = s.agenda := rfl
@[simp] theorem State.setDecSt_hostData (x : DecSt) : (s.setDecSt x).hostData = s.hostData := rfl
@[simp] theorem State.setDecSt_lutData (x : DecSt) : (s.setDecSt x).lutData = s.lutData := rfl
@[simp] theorem State.setDecSt_fresh (x : DecSt) : (s.setDecSt x).fresh = s.fresh := rfl
@[simp] theorem State.setDecSt_mem (x : DecSt) (sp : Space) : (s.setDecSt x).mem sp = s.mem sp := by cases sp <;> rfl
@[simp] theorem State.setDecSt_addrOf (x : DecSt) (sp : Space) (j : Nat) : (s.setDecSt x).addrOf sp j = s.addrOf sp j := rfl
@[simp] theorem State.setDecSt_placedIn (x : DecSt) (sp : Space) (a : Nat) : (s.setDecSt x).placedIn sp a = s.placedIn sp a := rfl
@[simp] theorem State.setDecSt_overlap (x : DecSt) (sp sp₂ : Space) : (s.setDecSt x).overlap sp sp₂ = s.overlap sp sp₂ := rfl
@[simp] theorem State.setDecSt_sysByte (x : DecSt) (a : Nat) : (s.setDecSt x).sysByte a = s.sysByte a := rfl
@[simp] theorem State.setDecSt_byteAt (x : DecSt) (sp : Space) (j : Nat) : (s.setDecSt x).byteAt sp j = s.byteAt sp j := by
  cases sp <;> rfl
@[simp] theorem State.setDecSt_holds (x : DecSt) (sp : Space) (j : Nat) : (s.setDecSt x).holds sp j = s.holds sp j := by
  cases sp <;> rfl

@[simp] theorem State.setDecOutLen_enc (n : Nat) : (s.setDecOutLen n).enc = s.enc := rfl
@[simp] theorem State.setDecOutLen_dec (n : Nat) : (s.setDecOutLen n).dec = { s.dec with outLen := n } := rfl
@[simp] theorem State.setDecOutLen_encIn (n : Nat) : (s.setDecOutLen n).encIn = s.encIn := rfl
@[simp] theorem State.setDecOutLen_encOut (n : Nat) : (s.setDecOutLen n).encOut = s.encOut := rfl
@[simp] theorem State.setDecOutLen_decIn (n : Nat) : (s.setDecOutLen n).decIn = s.decIn := rfl
@[simp] theorem State.setDecOutLen_decOut (n : Nat) : (s.setDecOutLen n).decOut = s.decOut := rfl
@[simp] theorem State.setDecOutLen_lenW (n : Nat) : (s.setDecOutLen n).lenW = s.lenW := rfl
@[simp] theorem State.setDecOutLen_csrMap (n : Nat) : (s.setDecOutLen n).csrMap = s.csrMap := rfl
@[simp] theorem State.setDecOutLen_bufMap (n : Nat) : (s.setDecOutLen n).bufMap = s.bufMap := rfl
@[simp] theorem State.setDecOutLen_sysMem (n : Nat) : (s.setDecOutLen n).sysMem = s.sysMem := rfl
@[simp] theorem State.setDecOutLen_agenda (n : Nat) : (s.setDecOutLen n).agenda = s.agenda := rfl
@[simp] theorem State.setDecOutLen_hostData (n : Nat) : (s.setDecOutLen n).hostData = s.hostData := rfl
@[simp] theorem State.setDecOutLen_lutData (n : Nat) : (s.setDecOutLen n).lutData = s.lutData := rfl
@[simp] theorem State.setDecOutLen_fresh (n : Nat) : (s.setDecOutLen n).fresh = s.fresh := rfl
@[simp] theorem State.setDecOutLen_mem (n : Nat) (sp : Space) : (s.setDecOutLen n).mem sp = s.mem sp := by cases sp <;> rfl
@[simp] theorem State.setDecOutLen_addrOf (n : Nat) (sp : Space) (j : Nat) : (s.setDecOutLen n).addrOf sp j = s.addrOf sp j := rfl
@[simp] theorem State.setDecOutLen_placedIn (n : Nat) (sp : Space) (a : Nat) : (s.setDecOutLen n).placedIn sp a = s.placedIn sp a := rfl
@[simp] theorem State.setDecOutLen_overlap (n : Nat) (sp sp₂ : Space) : (s.setDecOutLen n).overlap sp sp₂ = s.overlap sp sp₂ := rfl
@[simp] theorem State.setDecOutLen_sysByte (n : Nat) (a : Nat) : (s.setDecOutLen n).sysByte a = s.sysByte a := rfl
@[simp] theorem State.setDecOutLen_byteAt (n : Nat) (sp : Space) (j : Nat) : (s.setDecOutLen n).byteAt sp j = s.byteAt sp j := by
  cases sp <;> rfl
@[simp] theorem State.setDecOutLen_holds (n : Nat) (sp : Space) (j : Nat) : (s.setDecOutLen n).holds sp j = s.holds sp j := by
  cases sp <;> rfl

@[simp] theorem raise_enc (k : ErrKind) : (raise k s).enc = s.enc := rfl
@[simp] theorem raise_dec (k : ErrKind) : (raise k s).dec = { s.dec with err := some k, outLen := 0, st := .done } := rfl
@[simp] theorem raise_encIn (k : ErrKind) : (raise k s).encIn = s.encIn := rfl
@[simp] theorem raise_encOut (k : ErrKind) : (raise k s).encOut = s.encOut := rfl
@[simp] theorem raise_decIn (k : ErrKind) : (raise k s).decIn = s.decIn := rfl
@[simp] theorem raise_decOut (k : ErrKind) : (raise k s).decOut = s.decOut := rfl
@[simp] theorem raise_lenW (k : ErrKind) : (raise k s).lenW = s.lenW := rfl
@[simp] theorem raise_csrMap (k : ErrKind) : (raise k s).csrMap = s.csrMap := rfl
@[simp] theorem raise_bufMap (k : ErrKind) : (raise k s).bufMap = s.bufMap := rfl
@[simp] theorem raise_sysMem (k : ErrKind) : (raise k s).sysMem = s.sysMem := rfl
@[simp] theorem raise_agenda (k : ErrKind) : (raise k s).agenda = s.agenda := rfl
@[simp] theorem raise_hostData (k : ErrKind) : (raise k s).hostData = s.hostData := rfl
@[simp] theorem raise_lutData (k : ErrKind) : (raise k s).lutData = s.lutData := rfl
@[simp] theorem raise_fresh (k : ErrKind) : (raise k s).fresh = s.fresh := rfl
@[simp] theorem raise_mem (k : ErrKind) (sp : Space) : (raise k s).mem sp = s.mem sp := by cases sp <;> rfl
@[simp] theorem raise_addrOf (k : ErrKind) (sp : Space) (j : Nat) : (raise k s).addrOf sp j = s.addrOf sp j := rfl
@[simp] theorem raise_placedIn (k : ErrKind) (sp : Space) (a : Nat) : (raise k s).placedIn sp a = s.placedIn sp a := rfl
@[simp] theorem raise_overlap (k : ErrKind) (sp sp₂ : Space) : (raise k s).overlap sp sp₂ = s.overlap sp sp₂ := rfl
@[simp] theorem raise_sysByte (k : ErrKind) (a : Nat) : (raise k s).sysByte a = s.sysByte a := rfl
@[simp] theorem raise_byteAt (k : ErrKind) (sp : Space) (j : Nat) : (raise k s).byteAt sp j = s.byteAt sp j := by
  cases sp <;> rfl
@[simp] theorem raise_holds (k : ErrKind) (sp : Space) (j : Nat) : (raise k s).holds sp j = s.holds sp j := by
  cases sp <;> rfl

@[simp] theorem answerHost_enc (v : Nat) : (answerHost v s).enc = s.enc := rfl
@[simp] theorem answerHost_dec (v : Nat) : (answerHost v s).dec = s.dec := rfl
@[simp] theorem answerHost_encIn (v : Nat) : (answerHost v s).encIn = s.encIn := rfl
@[simp] theorem answerHost_encOut (v : Nat) : (answerHost v s).encOut = s.encOut := rfl
@[simp] theorem answerHost_decIn (v : Nat) : (answerHost v s).decIn = s.decIn := rfl
@[simp] theorem answerHost_decOut (v : Nat) : (answerHost v s).decOut = s.decOut := rfl
@[simp] theorem answerHost_lenW (v : Nat) : (answerHost v s).lenW = s.lenW := rfl
@[simp] theorem answerHost_csrMap (v : Nat) : (answerHost v s).csrMap = s.csrMap := rfl
@[simp] theorem answerHost_bufMap (v : Nat) : (answerHost v s).bufMap = s.bufMap := rfl
@[simp] theorem answerHost_sysMem (v : Nat) : (answerHost v s).sysMem = s.sysMem := rfl
@[simp] theorem answerHost_agenda (v : Nat) : (answerHost v s).agenda = s.agenda := rfl
@[simp] theorem answerHost_hostData (v : Nat) : (answerHost v s).hostData = v := rfl
@[simp] theorem answerHost_lutData (v : Nat) : (answerHost v s).lutData = s.lutData := rfl
@[simp] theorem answerHost_fresh (v : Nat) : (answerHost v s).fresh = s.fresh := rfl
@[simp] theorem answerHost_mem (v : Nat) (sp : Space) : (answerHost v s).mem sp = s.mem sp := by cases sp <;> rfl
@[simp] theorem answerHost_addrOf (v : Nat) (sp : Space) (j : Nat) : (answerHost v s).addrOf sp j = s.addrOf sp j := rfl
@[simp] theorem answerHost_placedIn (v : Nat) (sp : Space) (a : Nat) : (answerHost v s).placedIn sp a = s.placedIn sp a := rfl
@[simp] theorem answerHost_overlap (v : Nat) (sp sp₂ : Space) : (answerHost v s).overlap sp sp₂ = s.overlap sp sp₂ := rfl
@[simp] theorem answerHost_sysByte (v : Nat) (a : Nat) : (answerHost v s).sysByte a = s.sysByte a := rfl
@[simp] theorem answerHost_byteAt (v : Nat) (sp : Space) (j : Nat) : (answerHost v s).byteAt sp j = s.byteAt sp j := by
  cases sp <;> rfl
@[simp] theorem answerHost_holds (v : Nat) (sp : Space) (j : Nat) : (answerHost v s).holds sp j = s.holds sp j := by
  cases sp <;> rfl

@[simp] theorem State.draw_enc : (s.draw).enc = s.enc := rfl
@[simp] theorem State.draw_dec : (s.draw).dec = s.dec := rfl
@[simp] theorem State.draw_encIn : (s.draw).encIn = s.encIn := rfl
@[simp] theorem State.draw_encOut : (s.draw).encOut = s.encOut := rfl
@[simp] theorem State.draw_decIn : (s.draw).decIn = s.decIn := rfl
@[simp] theorem State.draw_decOut : (s.draw).decOut = s.decOut := rfl
@[simp] theorem State.draw_lenW : (s.draw).lenW = s.lenW := rfl
@[simp] theorem State.draw_csrMap : (s.draw).csrMap = s.csrMap := rfl
@[simp] theorem State.draw_bufMap : (s.draw).bufMap = s.bufMap := rfl
@[simp] theorem State.draw_sysMem : (s.draw).sysMem = s.sysMem := rfl
@[simp] theorem State.draw_agenda : (s.draw).agenda = s.agenda := rfl
@[simp] theorem State.draw_hostData : (s.draw).hostData = s.hostData := rfl
@[simp] theorem State.draw_lutData : (s.draw).lutData = s.lutData := rfl
@[simp] theorem State.draw_fresh : (s.draw).fresh = s.fresh + 1 := rfl
@[simp] theorem State.draw_mem (sp : Space) : (s.draw).mem sp = s.mem sp := by cases sp <;> rfl
@[simp] theorem State.draw_addrOf (sp : Space) (j : Nat) : (s.draw).addrOf sp j = s.addrOf sp j := rfl
@[simp] theorem State.draw_placedIn (sp : Space) (a : Nat) : (s.draw).placedIn sp a = s.placedIn sp a := rfl
@[simp] theorem State.draw_overlap (sp sp₂ : Space) : (s.draw).overlap sp sp₂ = s.overlap sp sp₂ := rfl
@[simp] theorem State.draw_sysByte (a : Nat) : (s.draw).sysByte a = s.sysByte a := rfl
@[simp] theorem State.draw_byteAt (sp : Space) (j : Nat) : (s.draw).byteAt sp j = s.byteAt sp j := by
  cases sp <;> rfl
@[simp] theorem State.draw_holds (sp : Space) (j : Nat) : (s.draw).holds sp j = s.holds sp j := by
  cases sp <;> rfl

@[simp] theorem State.setMem_enc (sp : Space) (m : Memory) : (s.setMem sp m).enc = s.enc := by cases sp <;> rfl
@[simp] theorem State.setMem_dec (sp : Space) (m : Memory) : (s.setMem sp m).dec = s.dec := by cases sp <;> rfl
@[simp] theorem State.setMem_lenW (sp : Space) (m : Memory) : (s.setMem sp m).lenW = s.lenW := by cases sp <;> rfl
@[simp] theorem State.setMem_csrMap (sp : Space) (m : Memory) : (s.setMem sp m).csrMap = s.csrMap := by cases sp <;> rfl
@[simp] theorem State.setMem_bufMap (sp : Space) (m : Memory) : (s.setMem sp m).bufMap = s.bufMap := by cases sp <;> rfl
@[simp] theorem State.setMem_sysMem (sp : Space) (m : Memory) : (s.setMem sp m).sysMem = s.sysMem := by cases sp <;> rfl
@[simp] theorem State.setMem_agenda (sp : Space) (m : Memory) : (s.setMem sp m).agenda = s.agenda := by cases sp <;> rfl
@[simp] theorem State.setMem_hostData (sp : Space) (m : Memory) : (s.setMem sp m).hostData = s.hostData := by cases sp <;> rfl
@[simp] theorem State.setMem_lutData (sp : Space) (m : Memory) : (s.setMem sp m).lutData = s.lutData := by cases sp <;> rfl
@[simp] theorem State.setMem_fresh (sp : Space) (m : Memory) : (s.setMem sp m).fresh = s.fresh := by cases sp <;> rfl

@[simp] theorem State.setByte_enc (sp : Space) (k : Nat) (v : Byte) : (s.setByte sp k v).enc = s.enc := by
  unfold State.setByte; split <;> simp
@[simp] theorem State.setByte_dec (sp : Space) (k : Nat) (v : Byte) : (s.setByte sp k v).dec = s.dec := by
  unfold State.setByte; split <;> simp
@[simp] theorem State.setByte_lenW (sp : Space) (k : Nat) (v : Byte) : (s.setByte sp k v).lenW = s.lenW := by
  unfold State.setByte; split <;> simp
@[simp] theorem State.setByte_csrMap (sp : Space) (k : Nat) (v : Byte) : (s.setByte sp k v).csrMap = s.csrMap := by
  unfold State.setByte; split <;> simp
@[simp] theorem State.setByte_bufMap (sp : Space) (k : Nat) (v : Byte) : (s.setByte sp k v).bufMap = s.bufMap := by
  unfold State.setByte; split <;> simp
@[simp] theorem State.setByte_agenda (sp : Space) (k : Nat) (v : Byte) : (s.setByte sp k v).agenda = s.agenda := by
  unfold State.setByte; split <;> simp
@[simp] theorem State.setByte_hostData (sp : Space) (k : Nat) (v : Byte) : (s.setByte sp k v).hostData = s.hostData := by
  unfold State.setByte; split <;> simp
@[simp] theorem State.setByte_lutData (sp : Space) (k : Nat) (v : Byte) : (s.setByte sp k v).lutData = s.lutData := by
  unfold State.setByte; split <;> simp
@[simp] theorem State.setByte_fresh (sp : Space) (k : Nat) (v : Byte) : (s.setByte sp k v).fresh = s.fresh := by
  unfold State.setByte; split <;> simp

/-- Where an entry stands depends on `BUF_MAP` alone. -/
theorem State.addrOf_congr {s t : State} (h : t.bufMap = s.bufMap) (sp : Space) (j : Nat) : t.addrOf sp j = s.addrOf sp j := by
  simp [State.addrOf, h]

theorem State.placedIn_congr {s t : State} (h : t.bufMap = s.bufMap) (sp : Space) (a : Nat) :
    t.placedIn sp a = s.placedIn sp a := by
  simp [State.placedIn, h]

theorem State.overlap_congr {s t : State} (h : t.bufMap = s.bufMap) (sp sp₂ : Space) : t.overlap sp sp₂ = s.overlap sp sp₂ := by
  simp [State.overlap, h]

@[simp] theorem State.setByte_addrOf (sp : Space) (k : Nat) (v : Byte) (sp₂ : Space) (j : Nat) :
    (s.setByte sp k v).addrOf sp₂ j = s.addrOf sp₂ j := State.addrOf_congr (by simp) _ _

@[simp] theorem State.setByte_placedIn (sp : Space) (k : Nat) (v : Byte) (sp₂ : Space) (a : Nat) :
    (s.setByte sp k v).placedIn sp₂ a = s.placedIn sp₂ a := State.placedIn_congr (by simp) _ _

@[simp] theorem State.setByte_overlap (sp : Space) (k : Nat) (v : Byte) (sp₁ sp₂ : Space) :
    (s.setByte sp k v).overlap sp₁ sp₂ = s.overlap sp₁ sp₂ := State.overlap_congr (by simp) _ _

/-- The buffer replaced is the one replaced. -/
@[simp] theorem State.setMem_mem (sp : Space) (m : Memory) : (s.setMem sp m).mem sp = m := by cases sp <;> rfl

/-- Another buffer is untouched. -/
theorem State.setMem_mem_of_ne {sp sp' : Space} (h : sp' ≠ sp) (m : Memory) :
    (s.setMem sp m).mem sp' = s.mem sp' := by
  cases sp <;> cases sp' <;> first | rfl | exact absurd rfl h

end Sys2Proof.Machine
end

