-- ==== Sys2Proof/Laws/Memory.lean ====
section
/-! SUPPORT. The laws of the buffers: read after write, every other entry untouched, and the canonical form kept by
every operation (10_state.md R33; log 3). -/

namespace Sys2Proof.Machine

/-! ## Lists of cells -/

theorem lookupCell_insertCell_same (l : List Host.Cell) (k : Nat) (v : Byte) :
    lookupCell (insertCell l k v) k = some v := by
  induction l with
  | nil => simp [insertCell, lookupCell]
  | cons c r ih =>
    unfold insertCell
    split
    · simp [lookupCell]
    · split
      · simp [lookupCell]
      · rename_i h
        simp [lookupCell, h, ih]

theorem lookupCell_insertCell_of_ne (l : List Host.Cell) {k j : Nat} (h : j ≠ k) (v : Byte) :
    lookupCell (insertCell l k v) j = lookupCell l j := by
  induction l with
  | nil => simp [insertCell, lookupCell, Ne.symm h]
  | cons c r ih =>
    unfold insertCell
    split
    · simp [lookupCell, Ne.symm h]
    · split
      · rename_i hc
        simp [lookupCell, Ne.symm h, hc]
      · by_cases hj : c.1 = j <;> simp [lookupCell, hj, ih]

/-- A list that starts above `k` and rises still rises with `k` in front. -/
theorem risingFrom_cons {k : Nat} {v : Byte} {l : List Host.Cell} (h : risingFrom l = true)
    (hk : ∀ c, l.head? = some c → k < c.1) : risingFrom ((k, v) :: l) = true := by
  cases l with
  | nil => rfl
  | cons c r => simp [risingFrom, h, hk c rfl]

/-- What follows the first cell of a rising list rises. -/
theorem risingFrom_tail {c : Host.Cell} {r : List Host.Cell} (h : risingFrom (c :: r) = true) :
    risingFrom r = true := by
  cases r with
  | nil => rfl
  | cons b r' =>
    simp only [risingFrom, Bool.and_eq_true] at h
    exact h.2

/-- The first cell after an insertion stands above any bound that lies below both the list and the new cell. -/
theorem lt_head_insertCell {l : List Host.Cell} {k b : Nat} (v : Byte) (hb : b < k)
    (hl : ∀ c, l.head? = some c → b < c.1) (c : Host.Cell) (h : (insertCell l k v).head? = some c) : b < c.1 := by
  cases l with
  | nil =>
    simp only [insertCell, List.head?_cons, Option.some.injEq] at h
    subst h
    exact hb
  | cons a r =>
    unfold insertCell at h
    split at h
    · cases h
      exact hb
    · split at h
      · cases h
        exact hb
      · cases h
        exact hl _ rfl

theorem risingFrom_insertCell (l : List Host.Cell) (k : Nat) (v : Byte) (h : risingFrom l = true) :
    risingFrom (insertCell l k v) = true := by
  induction l with
  | nil => rfl
  | cons c r ih =>
    have hr := risingFrom_tail h
    have hhead : ∀ b, r.head? = some b → c.1 < b.1 := by
      intro b hb
      cases r with
      | nil => cases hb
      | cons b' r' =>
        cases hb
        simp only [risingFrom, Bool.and_eq_true, decide_eq_true_eq] at h
        exact h.1
    unfold insertCell
    split
    · exact risingFrom_cons h (fun b hb => by cases hb; assumption)
    · split
      · rename_i hc
        exact risingFrom_cons hr (fun b hb => by have := hhead b hb; omega)
      · exact risingFrom_cons (v := c.2) (ih hr) (lt_head_insertCell v (by omega) hhead)

theorem all_insertCell (l : List Host.Cell) (k : Nat) (v : Byte) (p : Host.Cell → Bool) (h : l.all p = true)
    (hk : p (k, v) = true) : (insertCell l k v).all p = true := by
  induction l with
  | nil => simp [insertCell, hk]
  | cons c r ih =>
    simp only [List.all_cons, Bool.and_eq_true] at h
    unfold insertCell
    split
    · simp [hk, h.1, h.2]
    · split
      · simp [hk, h.2]
      · simp [h.1, ih h.2]

/-! ## Buffers -/

theorem Memory.get_set_same (sp : Space) (m : Memory) (k : Nat) (v : Byte) : (m.set k v).get sp k = v := by
  simp [Memory.get, Memory.set, lookupCell_insertCell_same]

theorem Memory.get_set_of_ne (sp : Space) (m : Memory) {k j : Nat} (h : j ≠ k) (v : Byte) :
    (m.set k v).get sp j = m.get sp j := by
  simp [Memory.get, Memory.set, Memory.unlisted, lookupCell_insertCell_of_ne _ h]

@[simp] theorem Memory.set_holds (m : Memory) (k j : Nat) (v : Byte) : (m.set k v).holds j = m.holds j := rfl

@[simp] theorem Memory.forget_holds (m : Memory) (e j : Nat) : (m.forget e).holds j = m.holds j := rfl

/-- A write of an entry that exists keeps the canonical form. -/
theorem Memory.wf_set {m : Memory} (k : Nat) (v : Byte) (h : m.wf = true) (hk : m.holds k = true) :
    (m.set k v).wf = true := by
  simp only [Memory.wf, Bool.and_eq_true] at h ⊢
  exact ⟨risingFrom_insertCell _ _ _ h.1, all_insertCell _ _ _ _ h.2 hk⟩

/-- Forgetting the content keeps the canonical form. -/
theorem Memory.wf_forget (m : Memory) (e : Nat) : (m.forget e).wf = true := rfl

/-- `RESET` leaves an output buffer inside the block in canonical form. -/
theorem Memory.wf_outAfterReset (m : Memory) (e : Nat) : (outAfterReset e m).wf = true := rfl

theorem all_filter (l : List Host.Cell) (p q : Host.Cell → Bool) (h : l.all p = true) : (l.filter q).all p = true := by
  simp only [List.all_eq_true, List.mem_filter] at h ⊢
  exact fun x hx => h x hx.1

/-- Every cell after the first of a rising list stands above it. -/
theorem lt_of_mem_risingFrom {c : Host.Cell} {r : List Host.Cell} (h : risingFrom (c :: r) = true) {x : Host.Cell}
    (hx : x ∈ r) : c.1 < x.1 := by
  induction r generalizing c with
  | nil => cases hx
  | cons b r ih =>
    have ht := risingFrom_tail h
    simp only [risingFrom, Bool.and_eq_true, decide_eq_true_eq] at h
    rcases List.mem_cons.1 hx with rfl | hx
    · exact h.1
    · exact Nat.lt_trans h.1 (ih ht hx)

theorem risingFrom_filter (l : List Host.Cell) (q : Host.Cell → Bool) (h : risingFrom l = true) :
    risingFrom (l.filter q) = true := by
  induction l with
  | nil => rfl
  | cons c r ih =>
    have hr := ih (risingFrom_tail h)
    rw [List.filter_cons]
    split
    · refine risingFrom_cons (v := c.2) hr (fun b hb => lt_of_mem_risingFrom h ?_)
      exact (List.mem_filter.1 (List.mem_of_mem_head? hb)).1
    · exact hr

/-- `RESET` keeps the canonical form of the system's memory. -/
theorem wf_sysAfterReset {s : State} (e : Nat) (h : s.sysMem.wf = true) : (sysAfterReset s e).wf = true := by
  simp only [Memory.wf, Bool.and_eq_true] at h
  simp only [sysAfterReset, Memory.wf, Bool.and_eq_true]
  exact ⟨risingFrom_filter _ _ h.1, all_filter _ _ _ h.2⟩

/-- Dropping other cells leaves what is listed at an index. -/
theorem lookupCell_filter (l : List Host.Cell) (p : Nat → Bool) (a : Nat) (h : p a = true) :
    lookupCell (l.filter (fun c => p c.1)) a = lookupCell l a := by
  induction l with
  | nil => rfl
  | cons c r ih =>
    rw [List.filter_cons]
    by_cases hc : c.1 = a
    · simp [hc, h, lookupCell]
    · split <;> simp [lookupCell, hc, ih]

/-- `RESET` leaves the system's memory alone where no `OUT` buffer stands (R221). -/
theorem resetState_sysByte {s : State} {a : Nat} (h : s.outPlaced a = false) : (resetState s).sysByte a = s.sysByte a := by
  have ho : (resetState s).outPlaced a = false := h
  simp only [State.sysByte, State.sysUnlisted, ho, h]
  congr 1
  exact lookupCell_filter _ (fun a => !s.outPlaced a) _ (by simp [h])

/-- The buffers after reset are in canonical form. -/
theorem Memory.wf_unwritten : Memory.unwritten.wf = true := rfl

/-! ## The machine's way of reading and writing a byte -/

/-- An entry of a placed buffer stands in that buffer's window. -/
theorem State.placedIn_of_addrOf {s : State} {sp : Space} {k a : Nat} (h : s.addrOf sp k = some a) :
    s.placedIn sp a = true := by
  unfold State.addrOf at h
  unfold State.placedIn
  split at h
  · cases h
  · rename_i w hw
    split at h
    · cases h
      simp
      omega
    · cases h

/-- Windows that do not overlap have no address in common. -/
theorem State.not_placedIn_of_overlap {s : State} {sp sp₂ : Space} {a : Nat} (h : s.overlap sp sp₂ = false)
    (ha : s.placedIn sp a = true) : s.placedIn sp₂ a = false := by
  unfold State.overlap at h
  unfold State.placedIn at ha ⊢
  split at ha
  · cases ha
  · rename_i w hw
    split
    · rfl
    · rename_i w₂ hw₂
      simp only [hw, hw₂, decide_eq_false_iff_not] at h
      simp only [Bool.and_eq_true, decide_eq_true_eq] at ha
      simp only [Bool.and_eq_false_iff, decide_eq_false_iff_not]
      omega

/-- One space has each entry once. -/
theorem State.addrOf_inj {s : State} {sp : Space} {j k a : Nat} (hj : s.addrOf sp j = some a)
    (hk : s.addrOf sp k = some a) : j = k := by
  unfold State.addrOf at hj hk
  split at hj
  · cases hj
  · rename_i w hw
    simp only [hw] at hk
    split at hj
    · split at hk
      · cases hj
        injection hk
        omega
      · cases hk
    · cases hj

@[simp] theorem State.sameEntry_self (s : State) (sp : Space) (j k : Nat) : s.sameEntry sp j sp k = decide (j = k) := by
  unfold State.sameEntry
  by_cases h : j = k
  · simp [h]
  · cases hj : s.addrOf sp j with
    | none => simp [h]
    | some a =>
      have : s.addrOf sp k ≠ some a := fun hk => h (State.addrOf_inj hj hk)
      simp [h, this]

/-- Entries of spaces whose windows do not overlap are never one. -/
theorem State.sameEntry_of_overlap {s : State} {sp sp₂ : Space} (hne : sp ≠ sp₂) (h : s.overlap sp sp₂ = false) (j k : Nat) :
    s.sameEntry sp j sp₂ k = false := by
  unfold State.sameEntry
  cases hj : s.addrOf sp j with
  | none => simp [hne]
  | some a =>
    have hk : s.addrOf sp₂ k ≠ some a := fun hk => by
      have h1 := State.not_placedIn_of_overlap h (State.placedIn_of_addrOf hj)
      rw [State.placedIn_of_addrOf hk] at h1
      cases h1
    simp [hne, hk]

@[simp] theorem State.setByte_sameEntry (s : State) (sp : Space) (k : Nat) (v : Byte) (sp₁ : Space) (i : Nat) (sp₂ : Space)
    (j : Nat) : (s.setByte sp k v).sameEntry sp₁ i sp₂ j = s.sameEntry sp₁ i sp₂ j := by
  simp [State.sameEntry]

/-- The system's memory after a write of an address. -/
theorem State.sysByte_set (s : State) (a : Nat) (v : Byte) (b : Nat) :
    State.sysByte { s with sysMem := s.sysMem.set a v } b = if b = a then v else s.sysByte b := by
  unfold State.sysByte
  split
  · rename_i h
    simp [h, Memory.set, lookupCell_insertCell_same]
  · rename_i h
    simp only [Memory.set, lookupCell_insertCell_of_ne _ h]
    rfl

/-- A byte just written reads back. -/
@[simp] theorem State.byteAt_setByte_same (s : State) (sp : Space) (k : Nat) (v : Byte) :
    (s.setByte sp k v).byteAt sp k = v := by
  unfold State.byteAt
  rw [State.setByte_addrOf]
  unfold State.setByte
  split
  · rename_i a ha
    simp [State.sysByte_set]
  · simp [Memory.get_set_same]

/-- A byte just written reads back through every buffer that shares its address (R231). -/
theorem State.byteAt_setByte_of_sameEntry (s : State) {sp sp' : Space} {k j : Nat} (h : s.sameEntry sp k sp' j = true)
    (v : Byte) : (s.setByte sp k v).byteAt sp' j = v := by
  by_cases he : sp = sp' ∧ k = j
  · obtain ⟨rfl, rfl⟩ := he
    exact State.byteAt_setByte_same s sp k v
  · cases ha : s.addrOf sp k with
    | none => simp [State.sameEntry, he, ha] at h
    | some a =>
      have hb : s.addrOf sp' j = some a := by simpa [State.sameEntry, he, ha] using h
      have hs : s.setByte sp k v = { s with sysMem := s.sysMem.set a v } := by simp only [State.setByte, ha]
      have hr : (s.setByte sp k v).byteAt sp' j = (s.setByte sp k v).sysByte a := by
        simp only [State.byteAt, State.setByte_addrOf, hb]
      rw [hr, hs, State.sysByte_set, if_pos rfl]

/-- A write leaves alone every byte of another entry: of another index or space, at another address (R231). -/
theorem State.byteAt_setByte_of_ne (s : State) {sp sp' : Space} {k j : Nat} (h : s.sameEntry sp k sp' j = false) (v : Byte) :
    (s.setByte sp k v).byteAt sp' j = s.byteAt sp' j := by
  have h' := h
  unfold State.byteAt
  rw [State.setByte_addrOf]
  unfold State.setByte
  simp only [State.sameEntry, Bool.or_eq_false_iff, decide_eq_false_iff_not] at h
  cases ha : s.addrOf sp k with
  | some a =>
    cases hb : s.addrOf sp' j with
    | some b =>
      have hne : b ≠ a := fun he => by simp [ha, hb, he] at h
      simp [State.sysByte_set, hne]
    | none => cases sp' <;> rfl
  | none =>
    cases hb : s.addrOf sp' j with
    | some b => cases sp <;> rfl
    | none =>
      by_cases hs : sp' = sp
      · subst hs
        have hj : j ≠ k := fun he => h.1 ⟨rfl, he.symm⟩
        simp [Memory.get_set_of_ne _ _ hj]
      · simp [State.setMem_mem_of_ne _ hs]

/-- A write leaves the system's memory alone but at the entry's address. -/
theorem State.sysByte_setByte_of_ne (s : State) {sp : Space} {k a : Nat} (h : s.addrOf sp k ≠ some a) (v : Byte) :
    (s.setByte sp k v).sysByte a = s.sysByte a := by
  unfold State.setByte
  split
  · rename_i b hb
    have hne : a ≠ b := fun he => h (by rw [hb, he])
    simp [State.sysByte_set, hne]
  · cases sp <;> rfl

/-- A write makes no entry exist or vanish. -/
@[simp] theorem State.holds_setByte (s : State) (sp sp' : Space) (k j : Nat) (v : Byte) :
    (s.setByte sp k v).holds sp' j = s.holds sp' j := by
  unfold State.holds
  rw [State.setByte_bufMap]
  unfold State.setByte
  cases s.addrOf sp k with
  | some a => cases s.bufMap.window sp' <;> cases sp' <;> rfl
  | none =>
    by_cases hs : sp' = sp
    · subst hs
      cases s.bufMap.window sp' <;> simp
    · cases s.bufMap.window sp' <;> simp [State.setMem_mem_of_ne _ hs]

end Sys2Proof.Machine
end

