-- ==== Sys2Proof/Laws/Ops.lean ====
section
/-! SUPPORT. For each shared operation one lemma that says all it can do when it answers a next state. -/

namespace Sys2Proof.Machine

/-- A sequence gives a next state exactly through a next state of its first part. -/
theorem andThen_eq_next {o : Out} {f : State → Out} {t : State} :
    andThen o f = .next t ↔ ∃ u, o = .next u ∧ f u = .next t := by
  cases o <;> simp [andThen]

/-- A read gives a next state only at an entry that exists, through the byte of that entry. -/
theorem memRead_eq_next {sp : Space} {k : Nat} {s t : State} {f : Byte → Out} :
    memRead sp k s f = .next t ↔ s.holds sp k = true ∧ f (s.byteAt sp k) = .next t := by
  unfold memRead
  split <;> simp_all

/-- A read of an entry that exists hands its byte on. -/
theorem memRead_of_holds {sp : Space} {k : Nat} {s : State} (h : s.holds sp k = true) (f : Byte → Out) :
    memRead sp k s f = f (s.byteAt sp k) := by simp [memRead, h]

/-- A write gives a next state only at an entry that exists, through the state after it. -/
theorem memWrite_eq_next {sp : Space} {k : Nat} {v : Byte} {s t : State} {f : State → Out} :
    memWrite sp k v s f = .next t ↔ s.holds sp k = true ∧ f (s.setByte sp k v) = .next t := by
  unfold memWrite
  split <;> simp_all

/-- A write of an entry that exists hands the state after it on. -/
theorem memWrite_of_holds {sp : Space} {k : Nat} {v : Byte} {s : State} (h : s.holds sp k = true) (f : State → Out) :
    memWrite sp k v s f = f (s.setByte sp k v) := by simp [memWrite, h]

/-- The operand `b1` of a group: read when the group has it, zero otherwise (R120). -/
theorem readB1_eq_next {s t : State} {f : Byte → Out} :
    readB1 s f = .next t ↔
      (2 ≤ s.encRem ∧ s.holds .encIn (s.encBase + 1) = true ∧ f (s.byteAt .encIn (s.encBase + 1)) = .next t) ∨
      (¬ 2 ≤ s.encRem ∧ f 0 = .next t) := by
  unfold readB1
  split <;> simp_all [memRead_eq_next]

/-- The operand `b2` of a group: read when the group has it, zero otherwise (R120). -/
theorem readB2_eq_next {s t : State} {f : Byte → Out} :
    readB2 s f = .next t ↔
      (s.encRem = 3 ∧ s.holds .encIn (s.encBase + 2) = true ∧ f (s.byteAt .encIn (s.encBase + 2)) = .next t) ∨
      (¬ s.encRem = 3 ∧ f 0 = .next t) := by
  unfold readB2
  split <;> simp_all [memRead_eq_next]

/-- The group fetch (R120): every byte the group has must exist; absent bytes are zero. -/
theorem readEncGroup_eq_next {s t : State} {f : Byte → Byte → Byte → Out} :
    readEncGroup s f = .next t ↔
      s.holds .encIn s.encBase = true ∧ (2 ≤ s.encRem → s.holds .encIn (s.encBase + 1) = true) ∧
      (s.encRem = 3 → s.holds .encIn (s.encBase + 2) = true) ∧
      f s.encGroupBytes.1 s.encGroupBytes.2.1 s.encGroupBytes.2.2 = .next t := by
  simp only [readEncGroup, readB0, memRead_eq_next, readB1_eq_next, readB2_eq_next, State.encGroupBytes]
  by_cases h2 : 2 ≤ s.encRem <;> by_cases h3 : s.encRem = 3 <;> simp [h2, h3]

/-- A group without an output is assigned none at the ports either (R177). -/
theorem groupWrites_eq_nil {lo : Nat} {k0 k1 k2 k3 : Cls}
    (h : (∀ v, k0 ≠ .val v) ∨ (∀ v, k1 ≠ .val v) ∨ k2 = .inv ∨ k3 = .inv ∨ (k2 = .pad ∧ k3 ≠ .pad)) :
    groupWrites lo k0 k1 k2 k3 = [] := by
  cases k0 <;> cases k1 <;> cases k2 <;> cases k3 <;> simp_all [groupWrites]

/-- The write of the encoder's steps (R131). -/
theorem encPut_eq_next {ch : Byte} {s t : State} :
    encPut ch s = .next t ↔
      s.holds .encOut s.enc.o = true ∧ (s.setByte .encOut s.enc.o ch).setEncO (s.enc.o + 1) = t := by
  simp [encPut, memWrite_eq_next]

/-- The class of the next character (R142). -/
theorem readScan_eq_next {s t : State} {f : Cls → Out} :
    readScan s f = .next t ↔ s.holds .decIn s.dec.i = true ∧ f (s.decCls s.dec.i) = .next t := by
  simp [readScan, memRead_eq_next, State.decCls]

/-- The classes of the current group (R170). -/
theorem readGroup_eq_next {s t : State} {f : Cls → Cls → Cls → Cls → Out} :
    readGroup s f = .next t ↔
      s.holdsGroup = true ∧
      f (s.decCls (4 * s.dec.g)) (s.decCls (4 * s.dec.g + 1)) (s.decCls (4 * s.dec.g + 2))
        (s.decCls (4 * s.dec.g + 3)) = .next t := by
  simp [readGroup, memRead_eq_next, State.decCls, State.holdsGroup, and_assoc]

/-- A group without an output stops. -/
theorem badGroup_ne_next (v : BitVec 3) (k2 k3 : Cls) (t : State) : badGroup v k2 k3 ≠ .next t := by
  unfold badGroup
  split <;> simp

/-- A stand-alone table read answers in `lutData` and changes nothing else (log 9). -/
theorem answerLut_eq_next {e : Byte} {s t : State} : answerLut e s = .next t ↔ { s with lutData := e } = t := by
  simp [answerLut]

/-- What a host write of `U.IN` can do: it writes the entry, of a unit and of a neighbour that are not using it (R228, R231). -/
theorem hostWriteIn_eq_next {u : UnitId} {k : Nat} {v : Byte} {s t : State} :
    hostWriteIn u k v s = .next t ↔
      busy u s = false ∧ (busy (otherUnit u) s && s.touches (inSpace u) k (inSpace (otherUnit u))) = false ∧
      (busy (otherUnit u) s && s.touches (inSpace u) k (outSpace (otherUnit u))) = false ∧
      s.holds (inSpace u) k = true ∧ s.setByte (inSpace u) k v = t := by
  unfold hostWriteIn
  split
  · simp_all
  · split
    · simp_all
    · split
      · simp_all
      · simp_all [memWrite_eq_next]

/-- A byte written through a buffer window is the host's write of that entry (20_memory.md R58). -/
theorem hostBusWriteIn_toNat (u : UnitId) (k a : Nat) (v : Byte) (s : State) :
    hostBusWriteIn u k a v.toNat s = hostWriteIn u k v s := by
  simp [hostBusWriteIn, v.isLt]

/-- `ENC.START` gives a next state in two ways (R101, R103). -/
theorem execEncStart_eq_next {len : Nat} {s t : State} :
    execEncStart len s = .next t ↔
      (encBusy s = true ∧ s = t) ∨
      (encBusy s = false ∧ s.unsupported .enc = false ∧ Config.lenInBound s.lenW .enc len = true ∧ s.setEnc (EncRegs.started len) = t) := by
  unfold execEncStart
  split
  · simp_all
  · split
    · simp_all
    · split <;> simp_all

/-- `DEC.START` gives a next state in two ways (R102, R103). -/
theorem execDecStart_eq_next {len : Nat} {s t : State} :
    execDecStart len s = .next t ↔
      (decBusy s = true ∧ s = t) ∨
      (decBusy s = false ∧ s.unsupported .dec = false ∧ Config.lenInBound s.lenW .dec len = true ∧ s.setDec (DecRegs.started len) = t) := by
  unfold execDecStart
  split
  · simp_all
  · split
    · simp_all
    · split <;> simp_all

/-- A step of the machine gives a next state through an instruction, a word that stands for none, or no word. -/
theorem step_eq_next {s t : State} :
    step s = .next t ↔
      (∃ o, fetch s = .other o ∧ o = .next t) ∨
      (∃ p u i, fetch s = .word p u ∧ decode u.lenW p = .ok i ∧ exec i u = .next t) ∨
      (∃ p u e, fetch s = .word p u ∧ decode u.lenW p = .error e ∧ rejected e u = .next t) := by
  unfold step
  cases fetch s with
  | other o => simp
  | word p u => cases h : decode u.lenW p <;> simp [h]

end Sys2Proof.Machine
end

