-- ==== Sys2Proof/Laws/PerInstr.lean ====
section
/-! SUPPORT. The per-instruction family DecodeEncode: decoding the encoder's word of a well-formed instruction
gives the instruction back, under every width of the length field. One lemma per constructor of Instr. -/

namespace Sys2Proof.Laws

/-- Decoding the word of a well-formed instruction gives the instruction back (30_encoding.md R71, R84, R85, R91). -/
def DecodeEncode.Statement (i : Instr) : Prop :=
  ∀ lenW : Option Nat, i.WellFormed lenW = true → decode lenW (encode i) = .ok i

theorem DecodeEncode.encStart (len : Nat) : DecodeEncode.Statement (.encStart len) := by
  intro lenW h
  have h' : Config.fitsLen lenW len = true := h
  simp only [encode, decode, commandLen_commandWord lenW len h']
  rfl

theorem DecodeEncode.decStart (len : Nat) : DecodeEncode.Statement (.decStart len) := by
  intro lenW h
  have h' : Config.fitsLen lenW len = true := h
  simp only [encode, decode, commandLen_commandWord lenW len h']
  rfl

theorem DecodeEncode.encodeOp (len : Nat) : DecodeEncode.Statement (.encodeOp len) := by
  intro lenW h
  have h' : Config.fitsLen lenW len = true := h
  simp only [encode, decode, commandLen_commandWord lenW len h']
  rfl

theorem DecodeEncode.decodeOp (len : Nat) : DecodeEncode.Statement (.decodeOp len) := by
  intro lenW h
  have h' : Config.fitsLen lenW len = true := h
  simp only [encode, decode, commandLen_commandWord lenW len h']
  rfl

theorem DecodeEncode.encSym0 : DecodeEncode.Statement .encSym0 := fun _ _ => rfl
theorem DecodeEncode.encSym1 : DecodeEncode.Statement .encSym1 := fun _ _ => rfl
theorem DecodeEncode.encSym2 : DecodeEncode.Statement .encSym2 := fun _ _ => rfl
theorem DecodeEncode.encSym3 : DecodeEncode.Statement .encSym3 := fun _ _ => rfl
theorem DecodeEncode.encPad2 : DecodeEncode.Statement .encPad2 := fun _ _ => rfl
theorem DecodeEncode.encPad3 : DecodeEncode.Statement .encPad3 := fun _ _ => rfl
theorem DecodeEncode.encFinish : DecodeEncode.Statement .encFinish := fun _ _ => rfl
theorem DecodeEncode.decCheck : DecodeEncode.Statement .decCheck := fun _ _ => rfl
theorem DecodeEncode.decScanVal : DecodeEncode.Statement .decScanVal := fun _ _ => rfl
theorem DecodeEncode.decScanPad : DecodeEncode.Statement .decScanPad := fun _ _ => rfl
theorem DecodeEncode.decScanInv : DecodeEncode.Statement .decScanInv := fun _ _ => rfl
theorem DecodeEncode.decScanEnd : DecodeEncode.Statement .decScanEnd := fun _ _ => rfl
theorem DecodeEncode.decRepackG3 : DecodeEncode.Statement .decRepackG3 := fun _ _ => rfl
theorem DecodeEncode.decRepackG2 : DecodeEncode.Statement .decRepackG2 := fun _ _ => rfl
theorem DecodeEncode.decRepackG1 : DecodeEncode.Statement .decRepackG1 := fun _ _ => rfl
theorem DecodeEncode.decFinish : DecodeEncode.Statement .decFinish := fun _ _ => rfl
theorem DecodeEncode.reset : DecodeEncode.Statement .reset := fun _ _ => rfl
theorem DecodeEncode.encLut0 : DecodeEncode.Statement .encLut0 := fun _ _ => rfl
theorem DecodeEncode.encLut1 : DecodeEncode.Statement .encLut1 := fun _ _ => rfl
theorem DecodeEncode.encLut2 : DecodeEncode.Statement .encLut2 := fun _ _ => rfl
theorem DecodeEncode.encLut3 : DecodeEncode.Statement .encLut3 := fun _ _ => rfl
theorem DecodeEncode.encLut4 : DecodeEncode.Statement .encLut4 := fun _ _ => rfl
theorem DecodeEncode.encLut5 : DecodeEncode.Statement .encLut5 := fun _ _ => rfl
theorem DecodeEncode.encLut6 : DecodeEncode.Statement .encLut6 := fun _ _ => rfl
theorem DecodeEncode.encLut7 : DecodeEncode.Statement .encLut7 := fun _ _ => rfl
theorem DecodeEncode.encLut8 : DecodeEncode.Statement .encLut8 := fun _ _ => rfl
theorem DecodeEncode.encLut9 : DecodeEncode.Statement .encLut9 := fun _ _ => rfl
theorem DecodeEncode.encLut10 : DecodeEncode.Statement .encLut10 := fun _ _ => rfl
theorem DecodeEncode.encLut11 : DecodeEncode.Statement .encLut11 := fun _ _ => rfl
theorem DecodeEncode.encLut12 : DecodeEncode.Statement .encLut12 := fun _ _ => rfl
theorem DecodeEncode.encLut13 : DecodeEncode.Statement .encLut13 := fun _ _ => rfl
theorem DecodeEncode.encLut14 : DecodeEncode.Statement .encLut14 := fun _ _ => rfl
theorem DecodeEncode.encLut15 : DecodeEncode.Statement .encLut15 := fun _ _ => rfl
theorem DecodeEncode.encLut16 : DecodeEncode.Statement .encLut16 := fun _ _ => rfl
theorem DecodeEncode.encLut17 : DecodeEncode.Statement .encLut17 := fun _ _ => rfl
theorem DecodeEncode.encLut18 : DecodeEncode.Statement .encLut18 := fun _ _ => rfl
theorem DecodeEncode.encLut19 : DecodeEncode.Statement .encLut19 := fun _ _ => rfl
theorem DecodeEncode.encLut20 : DecodeEncode.Statement .encLut20 := fun _ _ => rfl
theorem DecodeEncode.encLut21 : DecodeEncode.Statement .encLut21 := fun _ _ => rfl
theorem DecodeEncode.encLut22 : DecodeEncode.Statement .encLut22 := fun _ _ => rfl
theorem DecodeEncode.encLut23 : DecodeEncode.Statement .encLut23 := fun _ _ => rfl
theorem DecodeEncode.encLut24 : DecodeEncode.Statement .encLut24 := fun _ _ => rfl
theorem DecodeEncode.encLut25 : DecodeEncode.Statement .encLut25 := fun _ _ => rfl
theorem DecodeEncode.encLut26 : DecodeEncode.Statement .encLut26 := fun _ _ => rfl
theorem DecodeEncode.encLut27 : DecodeEncode.Statement .encLut27 := fun _ _ => rfl
theorem DecodeEncode.encLut28 : DecodeEncode.Statement .encLut28 := fun _ _ => rfl
theorem DecodeEncode.encLut29 : DecodeEncode.Statement .encLut29 := fun _ _ => rfl
theorem DecodeEncode.encLut30 : DecodeEncode.Statement .encLut30 := fun _ _ => rfl
theorem DecodeEncode.encLut31 : DecodeEncode.Statement .encLut31 := fun _ _ => rfl
theorem DecodeEncode.encLut32 : DecodeEncode.Statement .encLut32 := fun _ _ => rfl
theorem DecodeEncode.encLut33 : DecodeEncode.Statement .encLut33 := fun _ _ => rfl
theorem DecodeEncode.encLut34 : DecodeEncode.Statement .encLut34 := fun _ _ => rfl
theorem DecodeEncode.encLut35 : DecodeEncode.Statement .encLut35 := fun _ _ => rfl
theorem DecodeEncode.encLut36 : DecodeEncode.Statement .encLut36 := fun _ _ => rfl
theorem DecodeEncode.encLut37 : DecodeEncode.Statement .encLut37 := fun _ _ => rfl
theorem DecodeEncode.encLut38 : DecodeEncode.Statement .encLut38 := fun _ _ => rfl
theorem DecodeEncode.encLut39 : DecodeEncode.Statement .encLut39 := fun _ _ => rfl
theorem DecodeEncode.encLut40 : DecodeEncode.Statement .encLut40 := fun _ _ => rfl
theorem DecodeEncode.encLut41 : DecodeEncode.Statement .encLut41 := fun _ _ => rfl
theorem DecodeEncode.encLut42 : DecodeEncode.Statement .encLut42 := fun _ _ => rfl
theorem DecodeEncode.encLut43 : DecodeEncode.Statement .encLut43 := fun _ _ => rfl
theorem DecodeEncode.encLut44 : DecodeEncode.Statement .encLut44 := fun _ _ => rfl
theorem DecodeEncode.encLut45 : DecodeEncode.Statement .encLut45 := fun _ _ => rfl
theorem DecodeEncode.encLut46 : DecodeEncode.Statement .encLut46 := fun _ _ => rfl
theorem DecodeEncode.encLut47 : DecodeEncode.Statement .encLut47 := fun _ _ => rfl
theorem DecodeEncode.encLut48 : DecodeEncode.Statement .encLut48 := fun _ _ => rfl
theorem DecodeEncode.encLut49 : DecodeEncode.Statement .encLut49 := fun _ _ => rfl
theorem DecodeEncode.encLut50 : DecodeEncode.Statement .encLut50 := fun _ _ => rfl
theorem DecodeEncode.encLut51 : DecodeEncode.Statement .encLut51 := fun _ _ => rfl
theorem DecodeEncode.encLut52 : DecodeEncode.Statement .encLut52 := fun _ _ => rfl
theorem DecodeEncode.encLut53 : DecodeEncode.Statement .encLut53 := fun _ _ => rfl
theorem DecodeEncode.encLut54 : DecodeEncode.Statement .encLut54 := fun _ _ => rfl
theorem DecodeEncode.encLut55 : DecodeEncode.Statement .encLut55 := fun _ _ => rfl
theorem DecodeEncode.encLut56 : DecodeEncode.Statement .encLut56 := fun _ _ => rfl
theorem DecodeEncode.encLut57 : DecodeEncode.Statement .encLut57 := fun _ _ => rfl
theorem DecodeEncode.encLut58 : DecodeEncode.Statement .encLut58 := fun _ _ => rfl
theorem DecodeEncode.encLut59 : DecodeEncode.Statement .encLut59 := fun _ _ => rfl
theorem DecodeEncode.encLut60 : DecodeEncode.Statement .encLut60 := fun _ _ => rfl
theorem DecodeEncode.encLut61 : DecodeEncode.Statement .encLut61 := fun _ _ => rfl
theorem DecodeEncode.encLut62 : DecodeEncode.Statement .encLut62 := fun _ _ => rfl
theorem DecodeEncode.encLut63 : DecodeEncode.Statement .encLut63 := fun _ _ => rfl
theorem DecodeEncode.decLut00 : DecodeEncode.Statement .decLut00 := fun _ _ => rfl
theorem DecodeEncode.decLut01 : DecodeEncode.Statement .decLut01 := fun _ _ => rfl
theorem DecodeEncode.decLut02 : DecodeEncode.Statement .decLut02 := fun _ _ => rfl
theorem DecodeEncode.decLut03 : DecodeEncode.Statement .decLut03 := fun _ _ => rfl
theorem DecodeEncode.decLut04 : DecodeEncode.Statement .decLut04 := fun _ _ => rfl
theorem DecodeEncode.decLut05 : DecodeEncode.Statement .decLut05 := fun _ _ => rfl
theorem DecodeEncode.decLut06 : DecodeEncode.Statement .decLut06 := fun _ _ => rfl
theorem DecodeEncode.decLut07 : DecodeEncode.Statement .decLut07 := fun _ _ => rfl
theorem DecodeEncode.decLut08 : DecodeEncode.Statement .decLut08 := fun _ _ => rfl
theorem DecodeEncode.decLut09 : DecodeEncode.Statement .decLut09 := fun _ _ => rfl
theorem DecodeEncode.decLut0A : DecodeEncode.Statement .decLut0A := fun _ _ => rfl
theorem DecodeEncode.decLut0B : DecodeEncode.Statement .decLut0B := fun _ _ => rfl
theorem DecodeEncode.decLut0C : DecodeEncode.Statement .decLut0C := fun _ _ => rfl
theorem DecodeEncode.decLut0D : DecodeEncode.Statement .decLut0D := fun _ _ => rfl
theorem DecodeEncode.decLut0E : DecodeEncode.Statement .decLut0E := fun _ _ => rfl
theorem DecodeEncode.decLut0F : DecodeEncode.Statement .decLut0F := fun _ _ => rfl
theorem DecodeEncode.decLut10 : DecodeEncode.Statement .decLut10 := fun _ _ => rfl
theorem DecodeEncode.decLut11 : DecodeEncode.Statement .decLut11 := fun _ _ => rfl
theorem DecodeEncode.decLut12 : DecodeEncode.Statement .decLut12 := fun _ _ => rfl
theorem DecodeEncode.decLut13 : DecodeEncode.Statement .decLut13 := fun _ _ => rfl
theorem DecodeEncode.decLut14 : DecodeEncode.Statement .decLut14 := fun _ _ => rfl
theorem DecodeEncode.decLut15 : DecodeEncode.Statement .decLut15 := fun _ _ => rfl
theorem DecodeEncode.decLut16 : DecodeEncode.Statement .decLut16 := fun _ _ => rfl
theorem DecodeEncode.decLut17 : DecodeEncode.Statement .decLut17 := fun _ _ => rfl
theorem DecodeEncode.decLut18 : DecodeEncode.Statement .decLut18 := fun _ _ => rfl
theorem DecodeEncode.decLut19 : DecodeEncode.Statement .decLut19 := fun _ _ => rfl
theorem DecodeEncode.decLut1A : DecodeEncode.Statement .decLut1A := fun _ _ => rfl
theorem DecodeEncode.decLut1B : DecodeEncode.Statement .decLut1B := fun _ _ => rfl
theorem DecodeEncode.decLut1C : DecodeEncode.Statement .decLut1C := fun _ _ => rfl
theorem DecodeEncode.decLut1D : DecodeEncode.Statement .decLut1D := fun _ _ => rfl
theorem DecodeEncode.decLut1E : DecodeEncode.Statement .decLut1E := fun _ _ => rfl
theorem DecodeEncode.decLut1F : DecodeEncode.Statement .decLut1F := fun _ _ => rfl
theorem DecodeEncode.decLut20 : DecodeEncode.Statement .decLut20 := fun _ _ => rfl
theorem DecodeEncode.decLut21 : DecodeEncode.Statement .decLut21 := fun _ _ => rfl
theorem DecodeEncode.decLut22 : DecodeEncode.Statement .decLut22 := fun _ _ => rfl
theorem DecodeEncode.decLut23 : DecodeEncode.Statement .decLut23 := fun _ _ => rfl
theorem DecodeEncode.decLut24 : DecodeEncode.Statement .decLut24 := fun _ _ => rfl
theorem DecodeEncode.decLut25 : DecodeEncode.Statement .decLut25 := fun _ _ => rfl
theorem DecodeEncode.decLut26 : DecodeEncode.Statement .decLut26 := fun _ _ => rfl
theorem DecodeEncode.decLut27 : DecodeEncode.Statement .decLut27 := fun _ _ => rfl
theorem DecodeEncode.decLut28 : DecodeEncode.Statement .decLut28 := fun _ _ => rfl
theorem DecodeEncode.decLut29 : DecodeEncode.Statement .decLut29 := fun _ _ => rfl
theorem DecodeEncode.decLut2A : DecodeEncode.Statement .decLut2A := fun _ _ => rfl
theorem DecodeEncode.decLut2B : DecodeEncode.Statement .decLut2B := fun _ _ => rfl
theorem DecodeEncode.decLut2C : DecodeEncode.Statement .decLut2C := fun _ _ => rfl
theorem DecodeEncode.decLut2D : DecodeEncode.Statement .decLut2D := fun _ _ => rfl
theorem DecodeEncode.decLut2E : DecodeEncode.Statement .decLut2E := fun _ _ => rfl
theorem DecodeEncode.decLut2F : DecodeEncode.Statement .decLut2F := fun _ _ => rfl
theorem DecodeEncode.decLut30 : DecodeEncode.Statement .decLut30 := fun _ _ => rfl
theorem DecodeEncode.decLut31 : DecodeEncode.Statement .decLut31 := fun _ _ => rfl
theorem DecodeEncode.decLut32 : DecodeEncode.Statement .decLut32 := fun _ _ => rfl
theorem DecodeEncode.decLut33 : DecodeEncode.Statement .decLut33 := fun _ _ => rfl
theorem DecodeEncode.decLut34 : DecodeEncode.Statement .decLut34 := fun _ _ => rfl
theorem DecodeEncode.decLut35 : DecodeEncode.Statement .decLut35 := fun _ _ => rfl
theorem DecodeEncode.decLut36 : DecodeEncode.Statement .decLut36 := fun _ _ => rfl
theorem DecodeEncode.decLut37 : DecodeEncode.Statement .decLut37 := fun _ _ => rfl
theorem DecodeEncode.decLut38 : DecodeEncode.Statement .decLut38 := fun _ _ => rfl
theorem DecodeEncode.decLut39 : DecodeEncode.Statement .decLut39 := fun _ _ => rfl
theorem DecodeEncode.decLut3A : DecodeEncode.Statement .decLut3A := fun _ _ => rfl
theorem DecodeEncode.decLut3B : DecodeEncode.Statement .decLut3B := fun _ _ => rfl
theorem DecodeEncode.decLut3C : DecodeEncode.Statement .decLut3C := fun _ _ => rfl
theorem DecodeEncode.decLut3D : DecodeEncode.Statement .decLut3D := fun _ _ => rfl
theorem DecodeEncode.decLut3E : DecodeEncode.Statement .decLut3E := fun _ _ => rfl
theorem DecodeEncode.decLut3F : DecodeEncode.Statement .decLut3F := fun _ _ => rfl
theorem DecodeEncode.decLut40 : DecodeEncode.Statement .decLut40 := fun _ _ => rfl
theorem DecodeEncode.decLut41 : DecodeEncode.Statement .decLut41 := fun _ _ => rfl
theorem DecodeEncode.decLut42 : DecodeEncode.Statement .decLut42 := fun _ _ => rfl
theorem DecodeEncode.decLut43 : DecodeEncode.Statement .decLut43 := fun _ _ => rfl
theorem DecodeEncode.decLut44 : DecodeEncode.Statement .decLut44 := fun _ _ => rfl
theorem DecodeEncode.decLut45 : DecodeEncode.Statement .decLut45 := fun _ _ => rfl
theorem DecodeEncode.decLut46 : DecodeEncode.Statement .decLut46 := fun _ _ => rfl
theorem DecodeEncode.decLut47 : DecodeEncode.Statement .decLut47 := fun _ _ => rfl
theorem DecodeEncode.decLut48 : DecodeEncode.Statement .decLut48 := fun _ _ => rfl
theorem DecodeEncode.decLut49 : DecodeEncode.Statement .decLut49 := fun _ _ => rfl
theorem DecodeEncode.decLut4A : DecodeEncode.Statement .decLut4A := fun _ _ => rfl
theorem DecodeEncode.decLut4B : DecodeEncode.Statement .decLut4B := fun _ _ => rfl
theorem DecodeEncode.decLut4C : DecodeEncode.Statement .decLut4C := fun _ _ => rfl
theorem DecodeEncode.decLut4D : DecodeEncode.Statement .decLut4D := fun _ _ => rfl
theorem DecodeEncode.decLut4E : DecodeEncode.Statement .decLut4E := fun _ _ => rfl
theorem DecodeEncode.decLut4F : DecodeEncode.Statement .decLut4F := fun _ _ => rfl
theorem DecodeEncode.decLut50 : DecodeEncode.Statement .decLut50 := fun _ _ => rfl
theorem DecodeEncode.decLut51 : DecodeEncode.Statement .decLut51 := fun _ _ => rfl
theorem DecodeEncode.decLut52 : DecodeEncode.Statement .decLut52 := fun _ _ => rfl
theorem DecodeEncode.decLut53 : DecodeEncode.Statement .decLut53 := fun _ _ => rfl
theorem DecodeEncode.decLut54 : DecodeEncode.Statement .decLut54 := fun _ _ => rfl
theorem DecodeEncode.decLut55 : DecodeEncode.Statement .decLut55 := fun _ _ => rfl
theorem DecodeEncode.decLut56 : DecodeEncode.Statement .decLut56 := fun _ _ => rfl
theorem DecodeEncode.decLut57 : DecodeEncode.Statement .decLut57 := fun _ _ => rfl
theorem DecodeEncode.decLut58 : DecodeEncode.Statement .decLut58 := fun _ _ => rfl
theorem DecodeEncode.decLut59 : DecodeEncode.Statement .decLut59 := fun _ _ => rfl
theorem DecodeEncode.decLut5A : DecodeEncode.Statement .decLut5A := fun _ _ => rfl
theorem DecodeEncode.decLut5B : DecodeEncode.Statement .decLut5B := fun _ _ => rfl
theorem DecodeEncode.decLut5C : DecodeEncode.Statement .decLut5C := fun _ _ => rfl
theorem DecodeEncode.decLut5D : DecodeEncode.Statement .decLut5D := fun _ _ => rfl
theorem DecodeEncode.decLut5E : DecodeEncode.Statement .decLut5E := fun _ _ => rfl
theorem DecodeEncode.decLut5F : DecodeEncode.Statement .decLut5F := fun _ _ => rfl
theorem DecodeEncode.decLut60 : DecodeEncode.Statement .decLut60 := fun _ _ => rfl
theorem DecodeEncode.decLut61 : DecodeEncode.Statement .decLut61 := fun _ _ => rfl
theorem DecodeEncode.decLut62 : DecodeEncode.Statement .decLut62 := fun _ _ => rfl
theorem DecodeEncode.decLut63 : DecodeEncode.Statement .decLut63 := fun _ _ => rfl
theorem DecodeEncode.decLut64 : DecodeEncode.Statement .decLut64 := fun _ _ => rfl
theorem DecodeEncode.decLut65 : DecodeEncode.Statement .decLut65 := fun _ _ => rfl
theorem DecodeEncode.decLut66 : DecodeEncode.Statement .decLut66 := fun _ _ => rfl
theorem DecodeEncode.decLut67 : DecodeEncode.Statement .decLut67 := fun _ _ => rfl
theorem DecodeEncode.decLut68 : DecodeEncode.Statement .decLut68 := fun _ _ => rfl
theorem DecodeEncode.decLut69 : DecodeEncode.Statement .decLut69 := fun _ _ => rfl
theorem DecodeEncode.decLut6A : DecodeEncode.Statement .decLut6A := fun _ _ => rfl
theorem DecodeEncode.decLut6B : DecodeEncode.Statement .decLut6B := fun _ _ => rfl
theorem DecodeEncode.decLut6C : DecodeEncode.Statement .decLut6C := fun _ _ => rfl
theorem DecodeEncode.decLut6D : DecodeEncode.Statement .decLut6D := fun _ _ => rfl
theorem DecodeEncode.decLut6E : DecodeEncode.Statement .decLut6E := fun _ _ => rfl
theorem DecodeEncode.decLut6F : DecodeEncode.Statement .decLut6F := fun _ _ => rfl
theorem DecodeEncode.decLut70 : DecodeEncode.Statement .decLut70 := fun _ _ => rfl
theorem DecodeEncode.decLut71 : DecodeEncode.Statement .decLut71 := fun _ _ => rfl
theorem DecodeEncode.decLut72 : DecodeEncode.Statement .decLut72 := fun _ _ => rfl
theorem DecodeEncode.decLut73 : DecodeEncode.Statement .decLut73 := fun _ _ => rfl
theorem DecodeEncode.decLut74 : DecodeEncode.Statement .decLut74 := fun _ _ => rfl
theorem DecodeEncode.decLut75 : DecodeEncode.Statement .decLut75 := fun _ _ => rfl
theorem DecodeEncode.decLut76 : DecodeEncode.Statement .decLut76 := fun _ _ => rfl
theorem DecodeEncode.decLut77 : DecodeEncode.Statement .decLut77 := fun _ _ => rfl
theorem DecodeEncode.decLut78 : DecodeEncode.Statement .decLut78 := fun _ _ => rfl
theorem DecodeEncode.decLut79 : DecodeEncode.Statement .decLut79 := fun _ _ => rfl
theorem DecodeEncode.decLut7A : DecodeEncode.Statement .decLut7A := fun _ _ => rfl
theorem DecodeEncode.decLut7B : DecodeEncode.Statement .decLut7B := fun _ _ => rfl
theorem DecodeEncode.decLut7C : DecodeEncode.Statement .decLut7C := fun _ _ => rfl
theorem DecodeEncode.decLut7D : DecodeEncode.Statement .decLut7D := fun _ _ => rfl
theorem DecodeEncode.decLut7E : DecodeEncode.Statement .decLut7E := fun _ _ => rfl
theorem DecodeEncode.decLut7F : DecodeEncode.Statement .decLut7F := fun _ _ => rfl
theorem DecodeEncode.decLut80 : DecodeEncode.Statement .decLut80 := fun _ _ => rfl
theorem DecodeEncode.decLut81 : DecodeEncode.Statement .decLut81 := fun _ _ => rfl
theorem DecodeEncode.decLut82 : DecodeEncode.Statement .decLut82 := fun _ _ => rfl
theorem DecodeEncode.decLut83 : DecodeEncode.Statement .decLut83 := fun _ _ => rfl
theorem DecodeEncode.decLut84 : DecodeEncode.Statement .decLut84 := fun _ _ => rfl
theorem DecodeEncode.decLut85 : DecodeEncode.Statement .decLut85 := fun _ _ => rfl
theorem DecodeEncode.decLut86 : DecodeEncode.Statement .decLut86 := fun _ _ => rfl
theorem DecodeEncode.decLut87 : DecodeEncode.Statement .decLut87 := fun _ _ => rfl
theorem DecodeEncode.decLut88 : DecodeEncode.Statement .decLut88 := fun _ _ => rfl
theorem DecodeEncode.decLut89 : DecodeEncode.Statement .decLut89 := fun _ _ => rfl
theorem DecodeEncode.decLut8A : DecodeEncode.Statement .decLut8A := fun _ _ => rfl
theorem DecodeEncode.decLut8B : DecodeEncode.Statement .decLut8B := fun _ _ => rfl
theorem DecodeEncode.decLut8C : DecodeEncode.Statement .decLut8C := fun _ _ => rfl
theorem DecodeEncode.decLut8D : DecodeEncode.Statement .decLut8D := fun _ _ => rfl
theorem DecodeEncode.decLut8E : DecodeEncode.Statement .decLut8E := fun _ _ => rfl
theorem DecodeEncode.decLut8F : DecodeEncode.Statement .decLut8F := fun _ _ => rfl
theorem DecodeEncode.decLut90 : DecodeEncode.Statement .decLut90 := fun _ _ => rfl
theorem DecodeEncode.decLut91 : DecodeEncode.Statement .decLut91 := fun _ _ => rfl
theorem DecodeEncode.decLut92 : DecodeEncode.Statement .decLut92 := fun _ _ => rfl
theorem DecodeEncode.decLut93 : DecodeEncode.Statement .decLut93 := fun _ _ => rfl
theorem DecodeEncode.decLut94 : DecodeEncode.Statement .decLut94 := fun _ _ => rfl
theorem DecodeEncode.decLut95 : DecodeEncode.Statement .decLut95 := fun _ _ => rfl
theorem DecodeEncode.decLut96 : DecodeEncode.Statement .decLut96 := fun _ _ => rfl
theorem DecodeEncode.decLut97 : DecodeEncode.Statement .decLut97 := fun _ _ => rfl
theorem DecodeEncode.decLut98 : DecodeEncode.Statement .decLut98 := fun _ _ => rfl
theorem DecodeEncode.decLut99 : DecodeEncode.Statement .decLut99 := fun _ _ => rfl
theorem DecodeEncode.decLut9A : DecodeEncode.Statement .decLut9A := fun _ _ => rfl
theorem DecodeEncode.decLut9B : DecodeEncode.Statement .decLut9B := fun _ _ => rfl
theorem DecodeEncode.decLut9C : DecodeEncode.Statement .decLut9C := fun _ _ => rfl
theorem DecodeEncode.decLut9D : DecodeEncode.Statement .decLut9D := fun _ _ => rfl
theorem DecodeEncode.decLut9E : DecodeEncode.Statement .decLut9E := fun _ _ => rfl
theorem DecodeEncode.decLut9F : DecodeEncode.Statement .decLut9F := fun _ _ => rfl
theorem DecodeEncode.decLutA0 : DecodeEncode.Statement .decLutA0 := fun _ _ => rfl
theorem DecodeEncode.decLutA1 : DecodeEncode.Statement .decLutA1 := fun _ _ => rfl
theorem DecodeEncode.decLutA2 : DecodeEncode.Statement .decLutA2 := fun _ _ => rfl
theorem DecodeEncode.decLutA3 : DecodeEncode.Statement .decLutA3 := fun _ _ => rfl
theorem DecodeEncode.decLutA4 : DecodeEncode.Statement .decLutA4 := fun _ _ => rfl
theorem DecodeEncode.decLutA5 : DecodeEncode.Statement .decLutA5 := fun _ _ => rfl
theorem DecodeEncode.decLutA6 : DecodeEncode.Statement .decLutA6 := fun _ _ => rfl
theorem DecodeEncode.decLutA7 : DecodeEncode.Statement .decLutA7 := fun _ _ => rfl
theorem DecodeEncode.decLutA8 : DecodeEncode.Statement .decLutA8 := fun _ _ => rfl
theorem DecodeEncode.decLutA9 : DecodeEncode.Statement .decLutA9 := fun _ _ => rfl
theorem DecodeEncode.decLutAA : DecodeEncode.Statement .decLutAA := fun _ _ => rfl
theorem DecodeEncode.decLutAB : DecodeEncode.Statement .decLutAB := fun _ _ => rfl
theorem DecodeEncode.decLutAC : DecodeEncode.Statement .decLutAC := fun _ _ => rfl
theorem DecodeEncode.decLutAD : DecodeEncode.Statement .decLutAD := fun _ _ => rfl
theorem DecodeEncode.decLutAE : DecodeEncode.Statement .decLutAE := fun _ _ => rfl
theorem DecodeEncode.decLutAF : DecodeEncode.Statement .decLutAF := fun _ _ => rfl
theorem DecodeEncode.decLutB0 : DecodeEncode.Statement .decLutB0 := fun _ _ => rfl
theorem DecodeEncode.decLutB1 : DecodeEncode.Statement .decLutB1 := fun _ _ => rfl
theorem DecodeEncode.decLutB2 : DecodeEncode.Statement .decLutB2 := fun _ _ => rfl
theorem DecodeEncode.decLutB3 : DecodeEncode.Statement .decLutB3 := fun _ _ => rfl
theorem DecodeEncode.decLutB4 : DecodeEncode.Statement .decLutB4 := fun _ _ => rfl
theorem DecodeEncode.decLutB5 : DecodeEncode.Statement .decLutB5 := fun _ _ => rfl
theorem DecodeEncode.decLutB6 : DecodeEncode.Statement .decLutB6 := fun _ _ => rfl
theorem DecodeEncode.decLutB7 : DecodeEncode.Statement .decLutB7 := fun _ _ => rfl
theorem DecodeEncode.decLutB8 : DecodeEncode.Statement .decLutB8 := fun _ _ => rfl
theorem DecodeEncode.decLutB9 : DecodeEncode.Statement .decLutB9 := fun _ _ => rfl
theorem DecodeEncode.decLutBA : DecodeEncode.Statement .decLutBA := fun _ _ => rfl
theorem DecodeEncode.decLutBB : DecodeEncode.Statement .decLutBB := fun _ _ => rfl
theorem DecodeEncode.decLutBC : DecodeEncode.Statement .decLutBC := fun _ _ => rfl
theorem DecodeEncode.decLutBD : DecodeEncode.Statement .decLutBD := fun _ _ => rfl
theorem DecodeEncode.decLutBE : DecodeEncode.Statement .decLutBE := fun _ _ => rfl
theorem DecodeEncode.decLutBF : DecodeEncode.Statement .decLutBF := fun _ _ => rfl
theorem DecodeEncode.decLutC0 : DecodeEncode.Statement .decLutC0 := fun _ _ => rfl
theorem DecodeEncode.decLutC1 : DecodeEncode.Statement .decLutC1 := fun _ _ => rfl
theorem DecodeEncode.decLutC2 : DecodeEncode.Statement .decLutC2 := fun _ _ => rfl
theorem DecodeEncode.decLutC3 : DecodeEncode.Statement .decLutC3 := fun _ _ => rfl
theorem DecodeEncode.decLutC4 : DecodeEncode.Statement .decLutC4 := fun _ _ => rfl
theorem DecodeEncode.decLutC5 : DecodeEncode.Statement .decLutC5 := fun _ _ => rfl
theorem DecodeEncode.decLutC6 : DecodeEncode.Statement .decLutC6 := fun _ _ => rfl
theorem DecodeEncode.decLutC7 : DecodeEncode.Statement .decLutC7 := fun _ _ => rfl
theorem DecodeEncode.decLutC8 : DecodeEncode.Statement .decLutC8 := fun _ _ => rfl
theorem DecodeEncode.decLutC9 : DecodeEncode.Statement .decLutC9 := fun _ _ => rfl
theorem DecodeEncode.decLutCA : DecodeEncode.Statement .decLutCA := fun _ _ => rfl
theorem DecodeEncode.decLutCB : DecodeEncode.Statement .decLutCB := fun _ _ => rfl
theorem DecodeEncode.decLutCC : DecodeEncode.Statement .decLutCC := fun _ _ => rfl
theorem DecodeEncode.decLutCD : DecodeEncode.Statement .decLutCD := fun _ _ => rfl
theorem DecodeEncode.decLutCE : DecodeEncode.Statement .decLutCE := fun _ _ => rfl
theorem DecodeEncode.decLutCF : DecodeEncode.Statement .decLutCF := fun _ _ => rfl
theorem DecodeEncode.decLutD0 : DecodeEncode.Statement .decLutD0 := fun _ _ => rfl
theorem DecodeEncode.decLutD1 : DecodeEncode.Statement .decLutD1 := fun _ _ => rfl
theorem DecodeEncode.decLutD2 : DecodeEncode.Statement .decLutD2 := fun _ _ => rfl
theorem DecodeEncode.decLutD3 : DecodeEncode.Statement .decLutD3 := fun _ _ => rfl
theorem DecodeEncode.decLutD4 : DecodeEncode.Statement .decLutD4 := fun _ _ => rfl
theorem DecodeEncode.decLutD5 : DecodeEncode.Statement .decLutD5 := fun _ _ => rfl
theorem DecodeEncode.decLutD6 : DecodeEncode.Statement .decLutD6 := fun _ _ => rfl
theorem DecodeEncode.decLutD7 : DecodeEncode.Statement .decLutD7 := fun _ _ => rfl
theorem DecodeEncode.decLutD8 : DecodeEncode.Statement .decLutD8 := fun _ _ => rfl
theorem DecodeEncode.decLutD9 : DecodeEncode.Statement .decLutD9 := fun _ _ => rfl
theorem DecodeEncode.decLutDA : DecodeEncode.Statement .decLutDA := fun _ _ => rfl
theorem DecodeEncode.decLutDB : DecodeEncode.Statement .decLutDB := fun _ _ => rfl
theorem DecodeEncode.decLutDC : DecodeEncode.Statement .decLutDC := fun _ _ => rfl
theorem DecodeEncode.decLutDD : DecodeEncode.Statement .decLutDD := fun _ _ => rfl
theorem DecodeEncode.decLutDE : DecodeEncode.Statement .decLutDE := fun _ _ => rfl
theorem DecodeEncode.decLutDF : DecodeEncode.Statement .decLutDF := fun _ _ => rfl
theorem DecodeEncode.decLutE0 : DecodeEncode.Statement .decLutE0 := fun _ _ => rfl
theorem DecodeEncode.decLutE1 : DecodeEncode.Statement .decLutE1 := fun _ _ => rfl
theorem DecodeEncode.decLutE2 : DecodeEncode.Statement .decLutE2 := fun _ _ => rfl
theorem DecodeEncode.decLutE3 : DecodeEncode.Statement .decLutE3 := fun _ _ => rfl
theorem DecodeEncode.decLutE4 : DecodeEncode.Statement .decLutE4 := fun _ _ => rfl
theorem DecodeEncode.decLutE5 : DecodeEncode.Statement .decLutE5 := fun _ _ => rfl
theorem DecodeEncode.decLutE6 : DecodeEncode.Statement .decLutE6 := fun _ _ => rfl
theorem DecodeEncode.decLutE7 : DecodeEncode.Statement .decLutE7 := fun _ _ => rfl
theorem DecodeEncode.decLutE8 : DecodeEncode.Statement .decLutE8 := fun _ _ => rfl
theorem DecodeEncode.decLutE9 : DecodeEncode.Statement .decLutE9 := fun _ _ => rfl
theorem DecodeEncode.decLutEA : DecodeEncode.Statement .decLutEA := fun _ _ => rfl
theorem DecodeEncode.decLutEB : DecodeEncode.Statement .decLutEB := fun _ _ => rfl
theorem DecodeEncode.decLutEC : DecodeEncode.Statement .decLutEC := fun _ _ => rfl
theorem DecodeEncode.decLutED : DecodeEncode.Statement .decLutED := fun _ _ => rfl
theorem DecodeEncode.decLutEE : DecodeEncode.Statement .decLutEE := fun _ _ => rfl
theorem DecodeEncode.decLutEF : DecodeEncode.Statement .decLutEF := fun _ _ => rfl
theorem DecodeEncode.decLutF0 : DecodeEncode.Statement .decLutF0 := fun _ _ => rfl
theorem DecodeEncode.decLutF1 : DecodeEncode.Statement .decLutF1 := fun _ _ => rfl
theorem DecodeEncode.decLutF2 : DecodeEncode.Statement .decLutF2 := fun _ _ => rfl
theorem DecodeEncode.decLutF3 : DecodeEncode.Statement .decLutF3 := fun _ _ => rfl
theorem DecodeEncode.decLutF4 : DecodeEncode.Statement .decLutF4 := fun _ _ => rfl
theorem DecodeEncode.decLutF5 : DecodeEncode.Statement .decLutF5 := fun _ _ => rfl
theorem DecodeEncode.decLutF6 : DecodeEncode.Statement .decLutF6 := fun _ _ => rfl
theorem DecodeEncode.decLutF7 : DecodeEncode.Statement .decLutF7 := fun _ _ => rfl
theorem DecodeEncode.decLutF8 : DecodeEncode.Statement .decLutF8 := fun _ _ => rfl
theorem DecodeEncode.decLutF9 : DecodeEncode.Statement .decLutF9 := fun _ _ => rfl
theorem DecodeEncode.decLutFA : DecodeEncode.Statement .decLutFA := fun _ _ => rfl
theorem DecodeEncode.decLutFB : DecodeEncode.Statement .decLutFB := fun _ _ => rfl
theorem DecodeEncode.decLutFC : DecodeEncode.Statement .decLutFC := fun _ _ => rfl
theorem DecodeEncode.decLutFD : DecodeEncode.Statement .decLutFD := fun _ _ => rfl
theorem DecodeEncode.decLutFE : DecodeEncode.Statement .decLutFE := fun _ _ => rfl
theorem DecodeEncode.decLutFF : DecodeEncode.Statement .decLutFF := fun _ _ => rfl

end Sys2Proof.Laws
end

