-- ==== Sys2Proof/Laws/Tables.lean ====
section
/-! SUPPORT. What the class of a byte says of its table entry, and back (30_encoding.md R78, R79). -/

namespace Sys2Proof.Machine

/-- The table has no entry of 64 to 253 (R78, R88). -/
theorem decLut_range : ∀ c : Byte, decLut c ≤ 63 ∨ decLut c = Config.padEntry ∨ decLut c = Config.invEntry := by
  decide

/-- A byte has class `VAL` with value `v` exactly when its entry is `v` (R79). -/
theorem cls_eq_val {c : Byte} {v : Idx} : cls c = .val v ↔ decLut c = v.setWidth 8 := by
  have h : ∀ (e : Byte) (v : Idx), e ≤ 63 → (e.setWidth 6 = v ↔ e = v.setWidth 8) := by decide
  have hv : ∀ v : Idx, v.setWidth 8 ≤ (63 : Byte) := by decide
  unfold cls
  split
  · rename_i hle
    simp [h _ v hle]
  · rename_i hnle
    have hne : decLut c ≠ v.setWidth 8 := fun he => hnle (he ▸ hv v)
    split <;> simp [hne]

/-- A byte has class `PAD` exactly when its entry is 254 (R79). -/
theorem cls_eq_pad {c : Byte} : cls c = .pad ↔ decLut c = Config.padEntry := by
  unfold cls
  split
  · rename_i hle
    have hne : decLut c ≠ Config.padEntry := fun he => absurd (he ▸ hle) (by decide)
    simp [hne]
  · split <;> simp_all

/-- A byte has class `INV` exactly when its entry is 255 (R79). -/
theorem cls_eq_inv {c : Byte} : cls c = .inv ↔ decLut c = Config.invEntry := by
  unfold cls
  split
  · rename_i hle
    have hne : decLut c ≠ Config.invEntry := fun he => absurd (he ▸ hle) (by decide)
    simp [hne]
  · rename_i hnle
    split
    · rename_i hp
      simp [hp, Config.padEntry, Config.invEntry]
    · rename_i hnp
      simp [((decLut_range c).resolve_left hnle).resolve_left hnp]

end Sys2Proof.Machine
end

