-- ==== Sys2Proof/Tests/Slice0.lean ====
section
/-! SUPPORT. The model's own tests: the checks of WellFormed, the decoding of words written out from the spec, one
step of each operation against the spec's vectors and traces (95_test_vectors.md), and, for each statement with
hypotheses, a concrete state that meets them. -/

namespace Sys2Proof.Tests
open Machine

/-! ## Small states -/

/-- The encoder in `RUN` with length `len` at output index `o` and the bytes `l` in `ENC.IN`. -/
def encAt (len o : Nat) (l : List Byte) : State :=
  { State.reset with enc := ⟨.run, len, o, 0⟩, encIn := Memory.unwritten.loaded l }

/-- The decoder with registers `r` and the bytes `l` in `DEC.IN`. -/
def decAt (r : DecRegs) (l : List Byte) : State :=
  { State.reset with dec := r, decIn := Memory.unwritten.loaded l }

/-- Registers of the decoder in `SCAN`. -/
def scanRegs (len i : Nat) (pad : Fin 3) (prev : Idx) (tailbad : Bool) : DecRegs :=
  { DecRegs.reset with st := .scan, len := len, i := i, pad := pad, prev := prev, tailbad := tailbad }

/-- Registers of the decoder in `REPACK`. -/
def repackRegs (len : Nat) (pad : Fin 3) (prev : Idx) (g : Nat) : DecRegs :=
  { DecRegs.reset with st := .repack, len := len, i := len, pad := pad, prev := prev, g := g }

/-- A field of the next state, if there is one. -/
def after {α : Type} (o : Out) (f : State → α) : Option α :=
  match o with
  | .next t => some (f t)
  | .fault _ => none
  | .refused _ => none

/-- `Man` -/
def man : List Byte := [0x4D, 0x61, 0x6E]
/-- `TWFu` -/
def twfu : List Byte := [0x54, 0x57, 0x46, 0x75]
/-- `TWE=` -/
def twe : List Byte := [0x54, 0x57, 0x45, 0x3D]
/-- `TQ==` -/
def tq : List Byte := [0x54, 0x51, 0x3D, 0x3D]
/-- `QQ@=` -/
def qqat : List Byte := [0x51, 0x51, 0x40, 0x3D]

/-! ## Well-formedness: a term that each check refuses -/

theorem test_wf_encStart_too_long : (Instr.encStart 16).WellFormed (some 4) = false := by decide
theorem test_wf_decStart_too_long : (Instr.decStart 16).WellFormed (some 4) = false := by decide
theorem test_wf_encode_too_long : (Instr.encodeOp 16).WellFormed (some 4) = false := by decide
theorem test_wf_decode_too_long : (Instr.decodeOp 16).WellFormed (some 4) = false := by decide
theorem test_wf_longest : (Instr.decStart 15).WellFormed (some 4) = true := by decide

/-! ## Decoding of words written out from the spec (M2, M3, R84, R85, R76, R80) -/

theorem test_decode_encStart : decode none (.ctrl .enc 0b111) = .ok (.encStart 3) := rfl
theorem test_decode_decStart : decode (some 3) (.ctrl .dec 0b1001) = .ok (.decStart 4) := rfl
theorem test_decode_encode : decode none (.call .enc 0b1001) = .ok (.encodeOp 4) := rfl
theorem test_decode_decode : decode none (.call .dec 0b10001) = .ok (.decodeOp 8) := rfl
theorem test_decode_start_zero : decode none (.ctrl .enc 0b1010) = .error .startBitZero := rfl
theorem test_decode_too_wide : decode (some 3) (.ctrl .dec 0b10001) = .error .commandTooWide := rfl
theorem test_decode_reset : decode none (.rst 1) = .ok .reset := rfl
theorem test_decode_sym0 : decode none (.encSel 0b0001) = .ok .encSym0 := rfl
theorem test_decode_sym1 : decode none (.encSel 0b0011) = .ok .encSym1 := rfl
theorem test_decode_sym2 : decode none (.encSel 0b0101) = .ok .encSym2 := rfl
theorem test_decode_sym3 : decode none (.encSel 0b0111) = .ok .encSym3 := rfl
theorem test_decode_pad2 : decode none (.encSel 0b0100) = .ok .encPad2 := rfl
theorem test_decode_pad3 : decode none (.encSel 0b0110) = .ok .encPad3 := rfl
theorem test_decode_encFinish : decode none (.encSel 0b1101) = .ok .encFinish := rfl
theorem test_decode_enc_none : decode none (.encSel 0b0010) = .error .noSuchPattern := rfl
theorem test_decode_check : decode none .decCheck = .ok .decCheck := rfl
theorem test_decode_scanVal : decode none (.scanSel 0b000) = .ok .decScanVal := rfl
theorem test_decode_scanPad : decode none (.scanSel 0b001) = .ok .decScanPad := rfl
theorem test_decode_scanInv : decode none (.scanSel 0b010) = .ok .decScanInv := rfl
theorem test_decode_scanEnd : decode none (.scanSel 0b111) = .ok .decScanEnd := rfl
theorem test_decode_g3 : decode none (.repackSel 0b000) = .ok .decRepackG3 := rfl
theorem test_decode_g2 : decode none (.repackSel 0b001) = .ok .decRepackG2 := rfl
theorem test_decode_g1 : decode none (.repackSel 0b011) = .ok .decRepackG1 := rfl
theorem test_decode_decFinish : decode none (.repackSel 0b110) = .ok .decFinish := rfl
theorem test_decode_repack_none : decode none (.repackSel 0b010) = .error .noSuchPattern := rfl
theorem test_decode_encLut_ends :
    decode none (.encIndex 0b000000) = .ok .encLut0 ∧ decode none (.encIndex 0b011001) = .ok .encLut25 ∧
    decode none (.encIndex 0b011010) = .ok .encLut26 ∧ decode none (.encIndex 0b110011) = .ok .encLut51 ∧
    decode none (.encIndex 0b110100) = .ok .encLut52 ∧ decode none (.encIndex 0b111110) = .ok .encLut62 ∧
    decode none (.encIndex 0b111111) = .ok .encLut63 := ⟨rfl, rfl, rfl, rfl, rfl, rfl, rfl⟩
theorem test_decode_decLut_ends :
    decode none (.decIndex 0x00) = .ok .decLut00 ∧ decode none (.decIndex 0x2B) = .ok .decLut2B ∧
    decode none (.decIndex 0x3D) = .ok .decLut3D ∧ decode none (.decIndex 0x41) = .ok .decLut41 ∧
    decode none (.decIndex 0x7A) = .ok .decLut7A ∧ decode none (.decIndex 0xFF) = .ok .decLutFF :=
  ⟨rfl, rfl, rfl, rfl, rfl, rfl⟩

/-- No two rows of the encoder's select table show the same vector (R84). -/
theorem test_encSelectTable_disjoint :
    ∀ v : BitVec 4, (encSelectTable.filter (·.hits v)).length ≤ 1 := by decide

/-- No two rows of the decoder's select tables show the same vector (R85). -/
theorem test_decSelectTables_disjoint :
    ∀ v : BitVec 3, (scanSelectTable.filter (·.hits v)).length ≤ 1 ∧
      (repackSelectTable.filter (·.hits v)).length ≤ 1 := by decide

/-! ## The tables (95_test_vectors.md section 2.1) -/

theorem test_encLut_boundaries :
    encLut 0 = 0x41 ∧ encLut 25 = 0x5A ∧ encLut 26 = 0x61 ∧ encLut 51 = 0x7A ∧ encLut 52 = 0x30 ∧ encLut 61 = 0x39 ∧
    encLut 62 = 0x2B ∧ encLut 63 = 0x2F := by decide
theorem test_decLut_boundaries :
    decLut 0x2A = 255 ∧ decLut 0x2D = 255 ∧ decLut 0x2F = 63 ∧ decLut 0x3A = 255 ∧ decLut 0x3D = 254 ∧
    decLut 0x40 = 255 ∧ decLut 0x5B = 255 ∧ decLut 0x5F = 255 ∧ decLut 0x7B = 255 ∧ decLut 0x80 = 255 := by decide
theorem test_decLut_counts :
    (decLutTable.filter (· ≤ 63)).length = 64 ∧ decLutTable.count 254 = 1 ∧ decLutTable.count 255 = 191 := by decide +kernel
theorem test_exec_encLut19 : after (exec .encLut19 State.reset) State.lutData = some 0x54 := by decide
theorem test_exec_decLut54 : after (exec .decLut54 State.reset) State.lutData = some 19 := by decide

/-! ## Encoder (traces E2, E3, E4; E12, E13, E16) -/

theorem test_sym0 : after (exec .encSym0 (encAt 3 0 man)) (fun t => (t.byteAt .encOut 0, t.enc)) =
    some (0x54, ⟨.run, 3, 1, 0⟩) := by decide
theorem test_sym1 : after (exec .encSym1 (encAt 3 1 man)) (fun t => (t.byteAt .encOut 1, t.enc)) =
    some (0x57, ⟨.run, 3, 2, 0⟩) := by decide
theorem test_sym1_tail : after (exec .encSym1 (encAt 1 1 [0x03])) (·.byteAt .encOut 1) = some 0x77 := by decide
theorem test_sym2 : after (exec .encSym2 (encAt 3 2 [0x00, 0x00, 0xC0])) (·.byteAt .encOut 2) = some 0x44 := by decide
theorem test_sym2_tail : after (exec .encSym2 (encAt 2 2 man)) (·.byteAt .encOut 2) = some 0x45 := by decide
theorem test_sym3 : after (exec .encSym3 (encAt 3 3 man)) (fun t => (t.byteAt .encOut 3, t.enc.o)) =
    some (0x75, 4) := by decide
theorem test_pad2 : after (exec .encPad2 (encAt 1 2 man)) (fun t => (t.byteAt .encOut 2, t.enc.o)) =
    some (0x3D, 3) := by decide
theorem test_pad3 : after (exec .encPad3 (encAt 2 3 man)) (fun t => (t.byteAt .encOut 3, t.enc.o)) =
    some (0x3D, 4) := by decide
/-- `ENC.PAD2` fetches its group, which must exist (R53, R120), and its port shows the reads. -/
theorem test_pad2_fetches :
    let s := encAt 1 2 man
    after (exec .encPad2 { s with encIn := { s.encIn with cap := some 0 } }) (·.enc.o) = none ∧
    (encPorts s).reads = [0] ∧ (encPorts (encAt 3 0 man)).reads = [0, 1, 2] := by decide
theorem test_encFinish : after (exec .encFinish (encAt 3 4 man)) (·.enc) = some ⟨.done, 3, 4, 4⟩ := by decide
theorem test_second_group : after (step ((encAt 4 5 [0x4D, 0x61, 0x6E, 0x79]).withInput (.clk .enc)))
    (·.byteAt .encOut 5) = some 0x51 := by decide

/-! ## Decoder (traces D2, D3, D4, D12, D15, D17, D19) -/

theorem test_check_empty : after (exec .decCheck (decAt (DecRegs.started 0) [])) (status .dec) = some 0b0010 := by decide
theorem test_check_length : after (exec .decCheck (decAt (DecRegs.started 2) [])) (status .dec) = some 0b0110 := by decide
theorem test_scanVal : after (exec .decScanVal (decAt (scanRegs 4 0 0 0 false) twfu)) (·.dec) =
    some (scanRegs 4 1 0 19 false) := by decide
theorem test_scanVal_after_pad :
    after (exec .decScanVal (decAt (scanRegs 4 3 1 16 false) [0x51, 0x51, 0x3D, 0x51])) (status .dec) =
      some 0b1110 := by decide
theorem test_scanPad_judges : after (exec .decScanPad (decAt (scanRegs 4 2 0 17 false) [0x54, 0x52, 0x3D, 0x3D])) (·.dec) =
    some (scanRegs 4 3 1 17 true) := by decide
theorem test_scanPad_early : after (exec .decScanPad (decAt (scanRegs 4 1 0 16 false) [0x51, 0x3D, 0x51, 0x51]))
    (fun t => (status .dec t, t.dec.i)) = some (0b1110, 1) := by decide
theorem test_scanInv : after (exec .decScanInv (decAt (scanRegs 4 2 0 16 false) qqat)) (status .dec) =
    some 0b1010 := by decide
theorem test_scanEnd : after (exec .decScanEnd (decAt (scanRegs 4 4 2 17 true) [])) (status .dec) = some 0b1110 := by decide
theorem test_g3 : after (exec .decRepackG3 (decAt (repackRegs 4 0 46 0) twfu)) (fun t => (t.decOut.cells, t.dec.g)) =
    some ([(0, 0x4D), (1, 0x61), (2, 0x6E)], 1) := by decide
theorem test_g2 : after (exec .decRepackG2 (decAt (repackRegs 4 1 4 0) twe)) (·.decOut.cells) =
    some [(0, 0x4D), (1, 0x61)] := by decide
theorem test_g1 : after (exec .decRepackG1 (decAt (repackRegs 4 2 16 0) tq)) (·.decOut.cells) =
    some [(0, 0x4D)] := by decide
/-- The ports show the writes of a step, and none for a group that no validated string has (R177). -/
theorem test_decPorts_writes :
    (decPorts (decAt (repackRegs 4 0 46 0) twfu)).writes = [(0, 0x4D), (1, 0x61), (2, 0x6E)] ∧
    (decPorts (decAt (repackRegs 4 1 4 0) twe)).writes = [(0, 0x4D), (1, 0x61)] ∧
    (decPorts (decAt (repackRegs 4 0 0 0) [0x51, 0x51, 0x3D, 0x51])).writes = [] ∧
    (decPorts (decAt (repackRegs 4 0 0 0) qqat)).writes = [] := by decide
theorem test_decFinish : after (exec .decFinish (decAt (repackRegs 4 2 16 1) tq)) (fun t => (t.dec.outLen, status .dec t)) =
    some (1, 0b0010) := by decide

/-! ## Commands (M2 to M10, S2, S6) -/

theorem test_encStart : after (step (State.reset.withInput (.writeReg .enc 0 7 false)))
    (fun t => (t.enc, status .enc t)) = some (⟨.run, 3, 0, 0⟩, 0b0001) := by decide
theorem test_encStart_busy : after (exec (.encStart 1) (encAt 4 2 [])) (·.enc) = some ⟨.run, 4, 2, 0⟩ := by decide
theorem test_decStart : after (step (State.reset.withInput (.writeReg .dec 0 9 false))) (·.dec) =
    some (DecRegs.started 4) := by decide
theorem test_reset_wins : after (step ((encAt 4 3 []).withInput (.writeReg .enc 0 5 true))) (·.enc) =
    some EncRegs.reset := by decide
theorem test_encode : after (exec (.encodeOp 2) { encAt 0 0 man with enc := EncRegs.reset })
    (fun t => (t.bytes .encOut 4, t.enc)) = some ([0x54, 0x57, 0x45, 0x3D], ⟨.done, 2, 4, 4⟩) := by decide
theorem test_decode : after (exec (.decodeOp 4) (decAt DecRegs.reset tq))
    (fun t => (t.decOut.cells, t.dec.outLen, status .dec t)) = some ([(0, 0x4D)], 1, 0b0010) := by decide

/-- A state in which both units run: the encoder has written `T` of `Man`, the decoder has accepted the `T` of `TWFu`. -/
def bothRun : State :=
  { State.reset with
    enc := ⟨.run, 3, 1, 0⟩, encIn := Memory.unwritten.loaded man, encOut := Memory.unwritten.loaded [0x54]
    dec := scanRegs 4 1 0 19 false, decIn := Memory.unwritten.loaded twfu }

/-- A platform that places the registers of `ENC` from address 16, `ENC.IN` at 32, `DEC.OUT` at 48, and `ENC.OUT` and `DEC.IN`
on the same 4 bytes at 40, with `M` at 32 (R58, R231; log 18). -/
def placed : State :=
  { State.reset with
    csrMap := [⟨16, .enc, 0⟩, ⟨17, .enc, 1⟩, ⟨18, .enc, 2⟩, ⟨19, .enc, 3⟩]
    bufMap := { encIn := some ⟨32, 4⟩, encOut := some ⟨40, 4⟩, decIn := some ⟨40, 4⟩, decOut := some ⟨48, 4⟩ }
    sysMem := { Memory.unwritten with cells := [(32, 0x4D)] } }

/-- The same platform with the operation of one unit running. -/
def placedRunning (u : UnitId) : State :=
  match u with
  | .enc => { placed with enc := EncRegs.started 1 }
  | .dec => { placed with dec := DecRegs.started 4 }

theorem test_bus_places :
    placed.placesAt 16 = [.reg .enc 0] ∧ placed.writableAt 33 = [.entry .encIn 1] ∧
    placed.readableAt 41 = [.entry .encOut 1] ∧ placed.writableAt 41 = [.entry .decIn 1] ∧ placed.placesAt 20 = [] := by decide
theorem test_bus_start : after (step (placed.withInput (.busWrite 16 7))) (·.enc) = some ⟨.run, 3, 0, 0⟩ := by decide
theorem test_bus_byte : after (step (placed.withInput (.busWrite 33 0x61))) (·.sysMem.cells) =
    some [(32, 0x4D), (33, 0x61)] := by decide

/-- `ENC.OUT` on `DEC.IN`: one operation after the other is served, and what was encoded is decoded (R231). -/
theorem test_shared_encode_then_decode :
    after (andThen (exec (.encodeOp 1) placed) (exec (.decodeOp 4))) (·.sysMem.cells) =
      some [(32, 0x4D), (40, 0x54), (41, 0x51), (42, 0x3D), (43, 0x3D), (48, 0x4D)] := by decide

/-- At the same time they are refused (U12), as is a host write of `DEC.IN` while the encoder writes there. -/
theorem test_shared_at_once_refused :
    after (exec (.decStart 4) (placedRunning .enc)) (·.enc.o) = none ∧
    after (exec (.encStart 1) (placedRunning .dec)) (·.enc.o) = none ∧
    after (step ((placedRunning .enc).withInput (.writeIn .dec 0 0x41))) (·.enc.o) = none ∧
    (placedRunning .enc).unsupported .enc = false := by decide

/-- `IN` on `OUT` of one unit is refused at START, at a step and in a whole operation (R231). -/
theorem test_overlap_refused :
    (∀ i ∈ [Instr.encStart 1, .encodeOp 1], after (exec i
      { placed with bufMap := { placed.bufMap with encOut := some ⟨35, 4⟩ } }) (·.enc.o) = none) ∧
    after (step { placedRunning .enc with bufMap := { placed.bufMap with encOut := some ⟨35, 4⟩ } }) (·.enc.o) = none := by
  decide

/-- `RESET` leaves no known byte in an `OUT` buffer and every byte of `IN` (R37, R221). -/
theorem test_reset_forgets_out :
    after (exec .reset { bothRun with enc := ⟨.done, 3, 4, 4⟩ }) (fun t => (t.encOut.cells, t.encIn.cells)) =
      some ([], [(0, 0x4D), (1, 0x61), (2, 0x6E)]) ∧
    after (exec .reset { placed with sysMem := { placed.sysMem with cells := [(32, 0x4D), (40, 0x54), (60, 1)] } })
      (·.sysMem.cells) = some [(32, 0x4D), (60, 1)] := by decide

/-- Words of table rows are decoded and run as the first step after reset (log 11). -/
theorem test_first_steps :
    decodeTableWord 8 1 = some (.encStart 0) ∧ decodeTableWord 8 5 = some .encSym2 ∧
    decodeTableWord 8 3 = some .decRepackG1 ∧ decodeTableWord 8 63 = some .encLut63 ∧
    decodeTableWord 8 64 = some .decLut40 ∧
    after (step (State.reset.withFetchWord 8 5)) (·.byteAt .encOut 2) = some 0x46 ∧
    after (step (State.reset.withFetchWord 8 3)) (·.byteAt .decOut 0) = some 0 ∧
    after (step (State.reset.withFetchWord 8 122)) State.lutData = some 51 := by decide

/-! ## Witnesses: a concrete state that meets the hypotheses of each statement -/

/-- A state in which the decoder has repacked the first group of `TWFuTQ==`. -/
def repacking : State :=
  { decAt (repackRegs 8 2 16 1) (twfu ++ tq) with decOut := Memory.unwritten.loaded man }

theorem witness_bothRun_inv : Inv bothRun := by
  refine ⟨⟨rfl, rfl, rfl, rfl, rfl⟩, ⟨rfl, ⟨by decide, rfl⟩⟩, ⟨rfl, by decide, by decide, ?_, rfl⟩,
    fun u _ => by cases u <;> rfl⟩
  refine ⟨by decide, rfl, by decide, rfl, rfl, by decide, ?_, ?_, by decide, fun _ => by decide, by decide⟩
  · intro k hk
    have h0 : k = 0 := by change k + 0 < 1 at hk; omega
    subst h0
    exact ⟨19, by decide⟩
  · intro k h1 h2
    change 1 ≤ k + 0 at h1
    change k < 1 at h2
    omega

theorem witness_repacking_inv : Inv repacking := by
  refine ⟨⟨rfl, rfl, rfl, rfl, rfl⟩, ⟨rfl, rfl⟩, ⟨rfl, by decide, by decide, ?_, rfl, rfl⟩, fun u _ => by cases u <;> rfl⟩
  refine ⟨by decide, rfl, by decide, rfl, rfl, by decide, ?_, ?_, by decide, fun _ => by decide, by decide⟩
  · intro k hk
    have h6 : k < 6 := by change k + 2 < 8 at hk; omega
    have hv : ∀ j, j < 6 → (match repacking.decCls j with | .val _ => true | .pad => false | .inv => false) = true := by
      decide
    have := hv k h6
    cases hc : repacking.decCls k with
    | val v => exact ⟨v, rfl⟩
    | pad => simp [hc] at this
    | inv => simp [hc] at this
  · intro k h1 h2
    have h6 : k = 6 ∨ k = 7 := by
      change 8 ≤ k + 2 at h1
      change k < 8 at h2
      omega
    rcases h6 with rfl | rfl <;> decide

/-- StepRunsTheDecodedInstruction: each way a word is presented. -/
theorem witness_StepRunsTheDecodedInstruction :
    (decode (bothRun.withInput (.writeReg .enc 0 7 false)).lenW (.ctrl .enc 7) = .ok (.encStart 3)) ∧
    (decode none (.call .dec 9) = .ok (.decodeOp 4)) ∧
    (unitWord .enc bothRun = .ok (some (.encSel 0b0011)) ∧ decode none (.encSel 0b0011) = .ok .encSym1) ∧
    ((encAt 3 1 man).agenda = [] ∧ encBusy (encAt 3 1 man) = true ∧ decBusy (encAt 3 1 man) = false ∧
      encWord (encAt 3 1 man) = some (.encSel 0b0011)) ∧
    (repacking.agenda = [] ∧ encBusy repacking = false ∧ decWord repacking = .ok (some (.repackSel 0b011)) ∧
      decode none (.repackSel 0b011) = .ok .decRepackG1) ∧
    (bothRun.agenda = [] ∧ encBusy bothRun = true ∧ decBusy bothRun = true ∧
      ∃ i p, unitWord (if Config.encoderFirst bothRun.fresh then .enc else .dec) bothRun = .ok (some p) ∧
        decode bothRun.lenW p = .ok i) ∧
    (State.reset.agenda = [] ∧ encBusy State.reset = false ∧ decBusy State.reset = false) := by
  refine ⟨rfl, rfl, ⟨rfl, rfl⟩, ⟨rfl, rfl, rfl, rfl⟩, ⟨rfl, rfl, rfl, rfl⟩, ⟨rfl, rfl, rfl, ?_⟩, rfl, rfl, rfl⟩
  cases Config.encoderFirst bothRun.fresh
  · exact ⟨.decScanVal, .scanSel 0b000, rfl, rfl⟩
  · exact ⟨.encSym1, .encSel 0b0011, rfl, rfl⟩

/-- EncoderSelectVector: a state for each row of R84. -/
theorem witness_EncoderSelectVector :
    ((encAt 3 4 man).enc.st = .run ∧ (encAt 3 4 man).enc.o = 4 * ((3 + 2) / 3)) ∧
    (∀ o, o < 4 → (encAt 3 o man).enc.o < 4 * ((3 + 2) / 3) ∧ (encAt 3 o man).enc.o % 4 = o) ∧
    min 3 (1 - 3 * (2 / 4)) = 1 ∧ min 3 (2 - 3 * (3 / 4)) ≤ 2 ∧ (encAt 1 2 man).encSelect = 0b0100 ∧
    (encAt 2 3 man).encSelect = 0b0110 := by decide

/-- DecoderSelectVector: a state for each row of R85. -/
theorem witness_DecoderSelectVector :
    (decAt (DecRegs.started 4) []).dec.st = .check ∧ (scanRegs 4 4 0 0 false).i = 4 ∧
    (let s := decAt (scanRegs 4 0 0 0 false) twfu
     s.dec.st = .scan ∧ s.dec.i < s.dec.len ∧ s.holds .decIn s.dec.i = true ∧ decLut (s.byteAt .decIn s.dec.i) ≤ 63) ∧
    decLut ((decAt (scanRegs 4 3 0 0 false) twe).byteAt .decIn 3) = 254 ∧
    decLut ((decAt (scanRegs 4 2 0 0 false) qqat).byteAt .decIn 2) = 255 ∧
    (repackRegs 4 0 0 1).g = (repackRegs 4 0 0 1).len / 4 ∧
    (let s := decAt (repackRegs 4 0 0 0) twfu
     s.dec.st = .repack ∧ s.dec.g < s.dec.len / 4 ∧ (∀ j, j < 4 → s.holds .decIn (4 * s.dec.g + j) = true) ∧
     decLut (s.byteAt .decIn 2) ≠ 254 ∧ decLut (s.byteAt .decIn 3) ≠ 254) ∧
    decLut ((decAt (repackRegs 4 1 4 0) twe).byteAt .decIn 3) = 254 ∧
    decLut (repacking.byteAt .decIn 6) = 254 ∧ decLut (repacking.byteAt .decIn 7) = 254 := by decide

/-- Sym0WritesTheFirstSymbol, Sym1…, Sym2…, Sym3…: full groups, and the shorter groups the middle two allow. -/
theorem witness_SymbolSteps :
    (∀ o, o < 4 → let s := encAt 3 o man
      s.enc.st = .run ∧ s.enc.o < 4 * ((s.enc.len + 2) / 3) ∧ s.enc.o % 4 = o ∧
      min 3 (s.enc.len - 3 * (s.enc.o / 4)) = 3 ∧
      (∀ j, j < 3 → s.holds .encIn (3 * (s.enc.o / 4) + j) = true) ∧ s.holds .encOut s.enc.o = true) ∧
    (let s := encAt 1 1 man
     s.enc.o < 4 * ((s.enc.len + 2) / 3) ∧ s.enc.o % 4 = 1 ∧ (∀ j, j < 3 → s.holds .encIn j = true) ∧ ¬ 2 ≤ min 3 (s.enc.len - 3 * (s.enc.o / 4))) ∧
    (let s := encAt 5 6 man
     s.enc.o < 4 * ((s.enc.len + 2) / 3) ∧ s.enc.o % 4 = 2 ∧ min 3 (s.enc.len - 3 * (s.enc.o / 4)) = 2) := by decide

/-- Pad2WritesPadding, Pad3WritesPadding (both tails), EncFinishPublishesTheLength. -/
theorem witness_PaddingSteps :
    (let s := encAt 1 2 man
     s.enc.st = .run ∧ s.enc.o < 4 * ((s.enc.len + 2) / 3) ∧ s.enc.o % 4 = 2 ∧
     min 3 (s.enc.len - 3 * (s.enc.o / 4)) = 1 ∧ s.holds .encIn (3 * (s.enc.o / 4)) = true ∧
     s.holds .encOut s.enc.o = true) ∧
    (∀ n, n = 1 ∨ n = 2 → let s := encAt n 3 man
     s.enc.st = .run ∧ s.enc.o < 4 * ((s.enc.len + 2) / 3) ∧ s.enc.o % 4 = 3 ∧
     min 3 (s.enc.len - 3 * (s.enc.o / 4)) ≤ 2 ∧
     (∀ j, j < 3 → s.holds .encIn (3 * (s.enc.o / 4) + j) = true) ∧ s.holds .encOut s.enc.o = true) ∧
    ((encAt 3 4 man).enc.st = .run ∧ (encAt 3 4 man).enc.o = 4 * (((encAt 3 4 man).enc.len + 2) / 3)) := by
  refine ⟨by decide, ?_, by decide⟩
  rintro n (rfl | rfl) <;> decide

/-- OutputMultiplexerFeedsEveryStep. -/
theorem witness_OutputMultiplexer :
    (encAt 3 1 man).enc.st = .run ∧ (encAt 3 1 man).enc.o < 4 * (((encAt 3 1 man).enc.len + 2) / 3) ∧
    decode none (.encSel (encAt 3 1 man).encSelect) = .ok .encSym1 ∧
    ∃ t, exec .encSym1 (encAt 3 1 man) = .next t := ⟨rfl, by decide, rfl, _, rfl⟩

/-- CheckJudgesTheLength: each clause. -/
theorem witness_Check :
    (decAt (DecRegs.started 0) []).dec.st = .check ∧ (decAt (DecRegs.started 0) []).dec.len = 0 ∧
    (decAt (DecRegs.started 3) []).dec.len % 4 ≠ 0 ∧
    (decAt (DecRegs.started 4) []).dec.len ≠ 0 ∧ (decAt (DecRegs.started 4) []).dec.len % 4 = 0 := by decide

/-- ScanValTakesTheSymbol: both clauses; ScanInvRaises. -/
theorem witness_ScanVal_ScanInv :
    (let s := decAt (scanRegs 4 0 0 0 false) twfu
     s.dec.st = .scan ∧ s.dec.i < s.dec.len ∧ s.holds .decIn s.dec.i = true ∧
     decLut (s.byteAt .decIn s.dec.i) ≤ 63 ∧ s.dec.pad = 0) ∧
    (let s := decAt (scanRegs 4 3 1 16 false) [0x51, 0x51, 0x3D, 0x51]
     s.dec.st = .scan ∧ s.dec.i < s.dec.len ∧ s.holds .decIn s.dec.i = true ∧
     decLut (s.byteAt .decIn s.dec.i) ≤ 63 ∧ s.dec.pad ≠ 0) ∧
    (let s := decAt (scanRegs 4 2 0 16 false) qqat
     s.dec.st = .scan ∧ s.dec.i < s.dec.len ∧ s.holds .decIn s.dec.i = true ∧
     decLut (s.byteAt .decIn s.dec.i) = 255) := by decide

/-- ScanPadCountsAndJudges: each clause, at the boundary of its range. -/
theorem witness_ScanPad :
    (let s := decAt (scanRegs 4 1 0 16 false) [0x51, 0x3D, 0x51, 0x51]
     s.dec.st = .scan ∧ s.dec.i < s.dec.len ∧ s.holds .decIn s.dec.i = true ∧
     decLut (s.byteAt .decIn s.dec.i) = 254 ∧ s.dec.i + 2 < s.dec.len) ∧
    (let s := decAt (scanRegs 4 2 0 17 false) tq
     s.dec.st = .scan ∧ s.dec.i < s.dec.len ∧ decLut (s.byteAt .decIn s.dec.i) = 254 ∧ s.dec.i + 2 = s.dec.len ∧
     s.dec.pad = 0) ∧
    (let s := decAt (scanRegs 4 3 0 4 false) twe
     s.dec.st = .scan ∧ s.dec.i < s.dec.len ∧ decLut (s.byteAt .decIn s.dec.i) = 254 ∧ s.dec.i + 1 = s.dec.len ∧
     s.dec.pad = 0) ∧
    (let s := decAt (scanRegs 4 3 1 16 false) tq
     s.dec.st = .scan ∧ s.dec.i < s.dec.len ∧ decLut (s.byteAt .decIn s.dec.i) = 254 ∧ s.dec.len ≤ s.dec.i + 2 ∧
     s.dec.pad = 1) := by decide

/-- ScanEndGivesTheVerdict: both clauses. -/
theorem witness_ScanEnd :
    (scanRegs 4 4 2 17 true).st = .scan ∧ (scanRegs 4 4 2 17 true).i = (scanRegs 4 4 2 17 true).len ∧
    (scanRegs 4 4 2 17 true).tailbad = true ∧ (scanRegs 4 4 2 16 false).tailbad = false := by decide

/-- RepackG3WritesThreeBytes, RepackG2WritesTwoBytes, RepackG1WritesOneByte, DecFinishPublishesTheLength. -/
theorem witness_Repack :
    (let s := decAt (repackRegs 4 0 46 0) twfu
     s.dec.st = .repack ∧ s.dec.g < s.dec.len / 4 ∧ (∀ j, j < 4 → s.holds .decIn (4 * s.dec.g + j) = true) ∧
     (∀ j, j < 3 → s.holds .decOut (3 * s.dec.g + j) = true) ∧ decLut (s.byteAt .decIn 0) = (19 : Idx).setWidth 8 ∧
     decLut (s.byteAt .decIn 1) = (22 : Idx).setWidth 8 ∧ decLut (s.byteAt .decIn 2) = (5 : Idx).setWidth 8 ∧
     decLut (s.byteAt .decIn 3) = (46 : Idx).setWidth 8) ∧
    (let s := decAt (repackRegs 4 1 4 0) twe
     decLut (s.byteAt .decIn 2) = (4 : Idx).setWidth 8 ∧ decLut (s.byteAt .decIn 3) = 254) ∧
    (let s := decAt (repackRegs 4 2 16 0) tq
     decLut (s.byteAt .decIn 1) = (16 : Idx).setWidth 8 ∧ decLut (s.byteAt .decIn 2) = 254 ∧
     decLut (s.byteAt .decIn 3) = 254) ∧
    ((repackRegs 4 2 16 1).st = .repack ∧ (repackRegs 4 2 16 1).g = (repackRegs 4 2 16 1).len / 4) := by decide

/-- UnreachableFormsGetNoEffect: a group of each bad shape, a third `=`, and units at rest. -/
theorem witness_UnreachableForms :
    (¬ decLut 0x3D ≤ 63 ∧ decLut 0x40 = 255 ∧ decLut 0x3D = 254 ∧ decLut 0x41 ≠ 254) ∧
    ((scanRegs 4 2 2 0 false).pad = 2 ∧ (scanRegs 4 2 2 0 false).len ≤ (scanRegs 4 2 2 0 false).i + 2) ∧
    (State.reset.enc.st ≠ .run ∧ busy .dec State.reset = false) := by decide

/-- EncStartBeginsAnOperation, DecStartBeginsAnOperation, StartWhileBusyIsIgnored, StartBeyondTheBoundIsRefused. -/
theorem witness_Starts :
    (busy .enc State.reset = false ∧ State.reset.unsupported .enc = false ∧
      Config.lenInBound State.reset.lenW .enc 3 = true) ∧
    (busy .dec placed = false ∧ placed.unsupported .dec = false ∧ (placedRunning .enc).unsupported .dec = true) ∧
    (busy .dec State.reset = false ∧ State.reset.unsupported .dec = false ∧ Config.lenInBound State.reset.lenW .dec 4 = true) ∧
    (busy .enc bothRun = true ∧ busy .dec bothRun = true) ∧
    (let s := { State.reset with lenW := some 4 }
     s.lenW = some 4 ∧ busy .enc s = false ∧ 3 * ((2 ^ 4 - 1) / 4) < 10 ∧ busy .dec s = false ∧ 2 ^ 4 - 1 < 16 ∧
     9 ≤ 3 * ((2 ^ 4 - 1) / 4) ∧ 15 ≤ 2 ^ 4 - 1) ∧
    State.reset.lenW = none := by decide

/-- EncodeComputesEnc, DecodeComputesDec (a string with a result and one with an error), StepMachineComputesTheFunctions,
NoStateSurvivesAnOperation. -/
theorem witness_WholeOperations :
    (let s := { encAt 0 0 man with enc := EncRegs.reset }
     busy .enc s = false ∧ busy .dec s = false ∧ s.agenda = [] ∧ s.unsupported .enc = false ∧ Config.lenInBound s.lenW .enc 3 = true ∧
     (∀ k, k < 3 → s.holds .encIn k = true) ∧ (∀ k, k < 4 * ((3 + 2) / 3) → s.holds .encOut k = true)) ∧
    (let s := decAt DecRegs.reset tq
     busy .dec s = false ∧ s.unsupported .dec = false ∧ Config.lenInBound s.lenW .dec 4 = true ∧ (∀ k, k < 4 → s.holds .decIn k = true) ∧
     dec (s.bytes .decIn 4) = .ok [0x4D] ∧ s.holds .decOut 0 = true) ∧
    (let s := decAt DecRegs.reset qqat
     dec (s.bytes .decIn 4) = .error .invalidCharacterError) ∧
    (∃ t t', exec (.decodeOp 4) (decAt DecRegs.reset tq) = .next t ∧
      exec (.decodeOp 4) { decAt DecRegs.reset tq with dec := { DecRegs.reset with st := .done, err := some .lengthError } } =
        .next t') :=
  ⟨by decide, ⟨rfl, rfl, rfl, by decide, rfl, rfl⟩, rfl, _, _, rfl, rfl⟩

/-- WholeOperationWhileBusyFinishesTheRunningOne, BothUnitsComeToRest: the invariant, large buffers, both units busy. -/
theorem witness_BothBusy :
    Inv bothRun ∧ Provided bothRun ∧ busy .enc bothRun = true ∧ busy .dec bothRun = true ∧
    bothRun.agenda = [] :=
  ⟨witness_bothRun_inv, ⟨fun _ => ⟨fun _ _ => rfl, fun _ _ => rfl⟩, fun _ => ⟨fun _ _ => rfl, fun _ _ => rfl⟩⟩, rfl, rfl, rfl⟩

/-- FirstOffenderDecides, its last clause: `Q=QQ`. -/
theorem witness_FirstOffender :
    (let s : List Byte := [0x51, 0x3D, 0x51, 0x51]
     s.length % 4 = 0 ∧ 1 < s.length ∧ decLut (byteOf s 1) ≠ 255 ∧ (byteOf s 1 = 0x3D ∧ 1 + 2 < s.length) ∧
     decLut (byteOf s 0) ≠ 255 ∧ byteOf s 0 ≠ 0x3D) := by decide

/-- UnitsAreIndependent, NoOperationWritesAnInputBuffer: an operation of each unit completes, one after the other. -/
theorem witness_UnitsAreIndependent :
    bothRun.unitsOverlap = false ∧ OfEncoder .encSym1 ∧ OfDecoder .decScanVal ∧ ∃ t u, exec .encSym1 bothRun = .next t ∧ exec .decScanVal t = .next u :=
  ⟨rfl, .inl (by decide), .inl (by decide), _, _, rfl, rfl⟩

/-- ErrorsAppearOnlyInValidation. -/
theorem witness_ErrorsAppear :
    ∃ t, exec .decScanInv (decAt (scanRegs 4 2 0 16 false) qqat) = .next t ∧
      (decAt (scanRegs 4 2 0 16 false) qqat).dec.err = none ∧ t.dec.err = some .invalidCharacterError :=
  ⟨_, rfl, rfl, rfl⟩

/-- RegisterAccesses, HostWritesTheInputBuffer, HostReadsTheOutputBuffer: both cases of each. -/
theorem witness_HostAccesses :
    ((State.reset.withInput (.readReg .enc 3)).agenda = .readReg .enc 3 :: []) ∧
    Config.fitsLen (some 3) 5 = true ∧
    (placed.placesAt 19 = [.reg .enc 3] ∧ placed.writableAt 32 = [.entry (inSpace .enc) 0] ∧
      placed.readableAt 43 = [.entry (outSpace .enc) 3] ∧ placed.registersAt 40 = []) ∧
    (busy .dec (placedRunning .enc) = false ∧ busy (otherUnit .dec) (placedRunning .enc) = true ∧
      (placedRunning .enc).touches (inSpace .dec) 0 (outSpace (otherUnit .dec)) = true) ∧
    (busy .enc State.reset = false ∧ State.reset.holds (inSpace .enc) 0 = true ∧ busy .enc bothRun = true) ∧
    (let s := { State.reset with dec := { DecRegs.reset with st := .done } }
     done .dec s = true ∧ s.holds (outSpace .dec) 0 = true) ∧ done .dec State.reset = false := by decide

/-- A platform with both `IN` buffers on the bytes at 32, both `OUT` buffers on those at 40, and a register at 42 as well. -/
def doubled : State :=
  { placed with
    csrMap := [⟨42, .enc, 2⟩]
    bufMap := { encIn := some ⟨32, 4⟩, encOut := some ⟨40, 4⟩, decIn := some ⟨32, 4⟩, decOut := some ⟨40, 4⟩ } }

/-- RegisterAccesses, HostWritesTheInputBuffer, HostReadsTheOutputBuffer, StartBeyondTheBoundIsRefused,
StepRunsTheDecodedInstruction: the clauses on shared addresses (R231). -/
theorem witness_SharedAddresses :
    (doubled.registersAt 42 ≠ [] ∧ doubled.placesAt 42 = [.reg .enc 2, .entry .encOut 2, .entry .decOut 2]) ∧
    (doubled.registersAt 41 = [] ∧ doubled.readableAt 41 = [.entry .encOut 1, .entry .decOut 1] ∧
      doubled.writableAt 35 = [.entry .encIn 3, .entry .decIn 3] ∧ doubled.placedIn .encOut 44 = false) ∧
    doubled.sameEntry (inSpace .enc) 3 .decIn 3 = true ∧
    (let s := { doubled with enc := EncRegs.started 1, dec := { DecRegs.reset with st := .done } }
     busy .dec s = false ∧ busy (otherUnit .dec) s = true ∧ s.touches (inSpace .dec) 0 (inSpace (otherUnit .dec)) = true ∧
     done .dec s = true ∧ s.touches (outSpace .dec) 0 (outSpace (otherUnit .dec)) = true) ∧
    (let s := { placed with bufMap := { placed.bufMap with encOut := some ⟨35, 4⟩ } }
     busy .enc s = false ∧ s.unsupported .enc = true ∧ busy .enc { s with enc := EncRegs.started 1 } = true ∧
     State.unsupported { s with enc := EncRegs.started 1 } .enc = true) := by decide

/-- EveryStepKeepsTheInvariant, InvariantStatesAreSafe, StatusTakesLegalValuesOnly, CountersFitTheirRegisters,
EncodedPrefixIsKept: a running state, and a step that gives a next state. -/
theorem witness_EncodedPrefix :
    Inv (bothRun) ∧ EncOutCorrect bothRun ∧ (∃ t, step { repacking with agenda := [] } = .next t) := by
  refine ⟨witness_bothRun_inv, fun _ k hk => ?_, _, rfl⟩
  have h0 : k = 0 := by change k < 1 at hk; omega
  subst h0
  decide

/-- EncodedPrefixIsKept, EveryStepKeepsTheInvariant: the running encoder alone takes its next step. -/
theorem witness_EncoderSteps :
    ∃ t, exec .encSym1 bothRun = .next t ∧ t.byteAt .encOut 1 = 0x57 := ⟨_, rfl, by decide⟩

/-- DecodedPrefixIsKept: a repacking state, and its next step. -/
theorem witness_DecodedPrefix :
    Inv repacking ∧ DecOutCorrect repacking ∧ ∃ t, step repacking = .next t := by
  refine ⟨witness_repacking_inv, fun _ => ⟨[0x4D, 0x61, 0x6E, 0x4D], rfl, ?_⟩, _, rfl⟩
  have h : ∀ k, k < 3 → repacking.byteAt .decOut k = byteOf [0x4D, 0x61, 0x6E, 0x4D] k := by decide
  intro k hk
  exact h k (by change k < min (3 * 1) 4 at hk; omega)

end Sys2Proof.Tests
end

section
/-! PROOFS. The bound of `LEN_W` (00_scope.md R7): what it says of a length, what a START beyond it or with overlapping
buffers answers (O31), and that the invariant keeps every counter below it (O59). -/

namespace Sys2Proof.Machine

/-! ## The bound of a finite `LEN_W` -/

theorem fitsLen_iff {lenW : Option Nat} {n : Nat} :
    Config.fitsLen lenW n = true ↔ ∀ w, lenW = some w → n < 2 ^ w := by
  cases lenW <;> simp [Config.fitsLen]

theorem lenInBound_enc_iff {lenW : Option Nat} {n : Nat} :
    Config.lenInBound lenW .enc n = true ↔ ∀ w, lenW = some w → n ≤ Config.encMaxN w := by
  cases lenW <;> simp [Config.lenInBound]

theorem lenInBound_dec_iff {lenW : Option Nat} {n : Nat} :
    Config.lenInBound lenW .dec n = true ↔ ∀ w, lenW = some w → n ≤ Config.decMaxL w := by
  cases lenW <;> simp [Config.lenInBound]

theorem lenInBound_enc_eq_false {lenW : Option Nat} {w n : Nat} (hw : lenW = some w) (h : Config.encMaxN w < n) :
    Config.lenInBound lenW .enc n = false :=
  Bool.eq_false_iff.2 fun hb => Nat.not_le.2 h (lenInBound_enc_iff.1 hb w hw)

theorem lenInBound_dec_eq_false {lenW : Option Nat} {w n : Nat} (hw : lenW = some w) (h : Config.decMaxL w < n) :
    Config.lenInBound lenW .dec n = false :=
  Bool.eq_false_iff.2 fun hb => Nat.not_le.2 h (lenInBound_dec_iff.1 hb w hw)

theorem fitsLen_of_le {lenW : Option Nat} {m n : Nat} (hmn : m ≤ n) (hn : Config.fitsLen lenW n = true) :
    Config.fitsLen lenW m = true :=
  fitsLen_iff.2 fun w hw => Nat.lt_of_le_of_lt hmn (fitsLen_iff.1 hn w hw)

/-- `ENC_MAX_N` is chosen so that even the number of output characters fits `LEN_W` bits (R7). -/
theorem encM_lt_of_le_encMaxN {n w : Nat} (h : n ≤ Config.encMaxN w) : encM n < 2 ^ w := by
  have hpos : 0 < 2 ^ w := Nat.two_pow_pos w
  simp only [Config.encMaxN] at h
  simp only [encM]
  omega

theorem fitsLen_encM_of_lenInBound {lenW : Option Nat} {n : Nat} (h : Config.lenInBound lenW .enc n = true) :
    Config.fitsLen lenW (encM n) = true :=
  fitsLen_iff.2 fun w hw => encM_lt_of_le_encMaxN (lenInBound_enc_iff.1 h w hw)

theorem fitsLen_of_lenInBound_dec {lenW : Option Nat} {n : Nat} (h : Config.lenInBound lenW .dec n = true) :
    Config.fitsLen lenW n = true := by
  refine fitsLen_iff.2 fun w hw => ?_
  have hpos : 0 < 2 ^ w := Nat.two_pow_pos w
  have hle : n ≤ 2 ^ w - 1 := lenInBound_dec_iff.1 h w hw
  omega

/-! ## Refused STARTs and whole operations -/

theorem exec_encStart (len : Nat) (s : State) : exec (.encStart len) s = execEncStart len s := by rfl
theorem exec_decStart (len : Nat) (s : State) : exec (.decStart len) s = execDecStart len s := by rfl
theorem exec_encodeOp (len : Nat) (s : State) : exec (.encodeOp len) s = execEncodeOp len s := by rfl
theorem exec_decodeOp (len : Nat) (s : State) : exec (.decodeOp len) s = execDecodeOp len s := by rfl

/-- `ENC.START` is refused in two ways, both of a unit that is not busy (R7, R231). -/
theorem execEncStart_eq_refused {len : Nat} {s : State} {r : Refusal} :
    execEncStart len s = .refused r ↔
      encBusy s = false ∧
      ((s.unsupported .enc = true ∧ .overlappingBuffers .enc = r) ∨
       (s.unsupported .enc = false ∧ Config.lenInBound s.lenW .enc len = false ∧ .lengthBeyondBound .enc = r)) := by
  unfold execEncStart
  split
  · simp_all
  · split
    · simp_all
    · split <;> simp_all

/-- `DEC.START` is refused in two ways, both of a unit that is not busy (R7, R231). -/
theorem execDecStart_eq_refused {len : Nat} {s : State} {r : Refusal} :
    execDecStart len s = .refused r ↔
      decBusy s = false ∧
      ((s.unsupported .dec = true ∧ .overlappingBuffers .dec = r) ∨
       (s.unsupported .dec = false ∧ Config.lenInBound s.lenW .dec len = false ∧ .lengthBeyondBound .dec = r)) := by
  unfold execDecStart
  split
  · simp_all
  · split
    · simp_all
    · split <;> simp_all

/-- Where `ENC.START` is refused, so is `ENCODE`, for the same reason. -/
theorem execEncodeOp_eq_refused_of_start {len : Nat} {s : State} {r : Refusal} (h : execEncStart len s = .refused r) :
    execEncodeOp len s = .refused r := by
  simp only [execEncodeOp, h, andThen]

/-- Where `DEC.START` is refused, so is `DECODE`, for the same reason. -/
theorem execDecodeOp_eq_refused_of_start {len : Nat} {s : State} {r : Refusal} (h : execDecStart len s = .refused r) :
    execDecodeOp len s = .refused r := by
  simp only [execDecodeOp, h, andThen]

theorem exec_encStart_and_encodeOp_refused {len : Nat} {s : State} {r : Refusal} (h : execEncStart len s = .refused r) :
    exec (.encStart len) s = .refused r ∧ exec (.encodeOp len) s = .refused r :=
  ⟨(exec_encStart len s).trans h, (exec_encodeOp len s).trans (execEncodeOp_eq_refused_of_start h)⟩

theorem exec_decStart_and_decodeOp_refused {len : Nat} {s : State} {r : Refusal} (h : execDecStart len s = .refused r) :
    exec (.decStart len) s = .refused r ∧ exec (.decodeOp len) s = .refused r :=
  ⟨(exec_decStart len s).trans h, (exec_decodeOp len s).trans (execDecodeOp_eq_refused_of_start h)⟩

/-- With supported buffers and a length in bound `ENC.START` is never refused: a busy unit ignores it. -/
theorem exists_execEncStart_eq_next {len : Nat} {s : State} (hu : s.unsupported .enc = false)
    (hb : Config.lenInBound s.lenW .enc len = true) : ∃ t, execEncStart len s = .next t := by
  cases hbusy : encBusy s with
  | true => exact ⟨_, execEncStart_eq_next.2 (.inl ⟨hbusy, rfl⟩)⟩
  | false => exact ⟨_, execEncStart_eq_next.2 (.inr ⟨hbusy, hu, hb, rfl⟩)⟩

/-- With supported buffers and a length in bound `DEC.START` is never refused: a busy unit ignores it. -/
theorem exists_execDecStart_eq_next {len : Nat} {s : State} (hu : s.unsupported .dec = false)
    (hb : Config.lenInBound s.lenW .dec len = true) : ∃ t, execDecStart len s = .next t := by
  cases hbusy : decBusy s with
  | true => exact ⟨_, execDecStart_eq_next.2 (.inl ⟨hbusy, rfl⟩)⟩
  | false => exact ⟨_, execDecStart_eq_next.2 (.inr ⟨hbusy, hu, hb, rfl⟩)⟩

/-- Settles O31: each clause is one of the cases in which START answers a next state or is refused. -/
theorem startBeyondTheBoundIsRefused : Obligations.StartBeyondTheBoundIsRefused := by
  unfold Obligations.StartBeyondTheBoundIsRefused
  refine ⟨fun s w len hw => ⟨?encBeyond, ?decBeyond⟩,
    fun s len => ⟨?encOverlap, ?decOverlap, ?encBusy, ?decBusy, ?encNext, ?decNext⟩⟩
  case encBeyond =>
    intro hbusy hu hlen
    have hb := lenInBound_enc_eq_false hw hlen
    exact exec_encStart_and_encodeOp_refused (execEncStart_eq_refused.2 ⟨hbusy, .inr ⟨hu, hb, rfl⟩⟩)
  case decBeyond =>
    intro hbusy hu hlen
    have hb := lenInBound_dec_eq_false hw hlen
    exact exec_decStart_and_decodeOp_refused (execDecStart_eq_refused.2 ⟨hbusy, .inr ⟨hu, hb, rfl⟩⟩)
  case encOverlap =>
    intro hbusy hu
    exact exec_encStart_and_encodeOp_refused (execEncStart_eq_refused.2 ⟨hbusy, .inl ⟨hu, rfl⟩⟩)
  case decOverlap =>
    intro hbusy hu
    exact exec_decStart_and_decodeOp_refused (execDecStart_eq_refused.2 ⟨hbusy, .inl ⟨hu, rfl⟩⟩)
  case encBusy => exact fun hbusy => execEncStart_eq_next.2 (.inl ⟨hbusy, rfl⟩)
  case decBusy => exact fun hbusy => execDecStart_eq_next.2 (.inl ⟨hbusy, rfl⟩)
  case encNext => exact fun hu hlen => exists_execEncStart_eq_next hu (lenInBound_enc_iff.2 hlen)
  case decNext => exact fun hu hlen => exists_execDecStart_eq_next hu (lenInBound_dec_iff.2 hlen)

/-! ## The counters under the invariant -/

theorem le_encM (n : Nat) : n ≤ encM n := by
  simp only [encM]
  omega

theorem decResultLen_le (len pad : Nat) : decResultLen len pad ≤ len := by
  simp only [decResultLen]
  omega

/-- No counter of the encoder exceeds the number of output characters, in any state of the unit. -/
theorem EncInv.counters_le_encM {s : State} (h : EncInv s) :
    s.enc.len ≤ s.encM ∧ s.enc.o ≤ s.encM ∧ s.enc.outLen ≤ s.encM := by
  refine ⟨le_encM _, ?_⟩
  obtain ⟨-, hst⟩ := h
  cases hs : s.enc.st with
  | idle =>
    have hreset : s.enc = EncRegs.reset := by simpa only [hs] using hst
    simp [hreset, EncRegs.reset]
  | run =>
    obtain ⟨ho, hout⟩ : s.enc.o ≤ s.encM ∧ s.enc.outLen = 0 := by simpa only [hs] using hst
    exact ⟨ho, by omega⟩
  | done =>
    obtain ⟨ho, hout⟩ : s.enc.o = s.encM ∧ s.enc.outLen = s.encM := by simpa only [hs] using hst
    exact ⟨ho.le, hout.le⟩

theorem Scanned.outLen_eq_zero {s : State} (h : Scanned s) : s.dec.outLen = 0 := by
  obtain ⟨-, -, -, -, hout, -⟩ := h
  exact hout

/-- A decoder never reports more bytes than it was given characters, in any state of the unit. -/
theorem DecInv.outLen_le_len {s : State} (h : DecInv s) : s.dec.outLen ≤ s.dec.len := by
  obtain ⟨-, -, -, hst⟩ := h
  cases hs : s.dec.st with
  | idle =>
    have hreset : s.dec = DecRegs.reset := by simpa only [hs] using hst
    simp [hreset, DecRegs.reset]
  | check =>
    have hstarted : s.dec = DecRegs.started s.dec.len := by simpa only [hs] using hst
    rw [hstarted]
    exact Nat.zero_le _
  | scan =>
    obtain ⟨hscan, -⟩ : Scanned s ∧ s.dec.g = 0 := by simpa only [hs] using hst
    exact hscan.outLen_eq_zero ▸ Nat.zero_le _
  | repack =>
    obtain ⟨hscan, -⟩ : Scanned s ∧ s.dec.i = s.dec.len ∧ s.dec.tailbad = false := by simpa only [hs] using hst
    exact hscan.outLen_eq_zero ▸ Nat.zero_le _
  | done =>
    cases he : s.dec.err with
    | none =>
      have hout : s.dec.outLen = decResultLen s.dec.len s.dec.pad.val := by simpa only [hs, he] using hst
      exact hout ▸ decResultLen_le _ _
    | some k =>
      have hout : s.dec.outLen = 0 := by simpa only [hs, he] using hst
      exact hout ▸ Nat.zero_le _

/-- No counter of the decoder exceeds its length. -/
theorem DecInv.counters_le_len {s : State} (h : DecInv s) :
    s.dec.i ≤ s.dec.len ∧ s.dec.g ≤ s.dec.len ∧ s.dec.outLen ≤ s.dec.len := by
  have hout := h.outLen_le_len
  obtain ⟨-, hi, hg, -⟩ := h
  exact ⟨hi, hg.trans (Nat.div_le_self _ _), hout⟩

/-- Settles O59: the encoder's counters stay below its number of output characters, the decoder's below its length, and
R7 chooses both bounds so that these fit `LEN_W` bits. -/
theorem countersFitTheirRegisters : Obligations.CountersFitTheirRegisters := by
  unfold Obligations.CountersFitTheirRegisters
  rintro s ⟨-, henc, hdec, -⟩
  have hm : Config.fitsLen s.lenW s.encM = true := fitsLen_encM_of_lenInBound henc.1
  have hl : Config.fitsLen s.lenW s.dec.len = true := fitsLen_of_lenInBound_dec hdec.1
  obtain ⟨hn, ho, heout⟩ := henc.counters_le_encM
  obtain ⟨hi, hg, hdout⟩ := hdec.counters_le_len
  simp only [List.forall_mem_cons]
  exact ⟨fitsLen_of_le hn hm, fitsLen_of_le ho hm, fitsLen_of_le heout hm, hl, fitsLen_of_le hi hl, fitsLen_of_le hg hl,
    fitsLen_of_le hdout hl, by simp⟩

/-- The encoder right before `ENC.FINISH` with the longest input of a 3-bit `LEN_W`, the decoder waiting for its first
edge with the longest string of that width. -/
def atTheBound : State :=
  { State.reset with
    lenW := some 3
    enc := { EncRegs.started (Config.encMaxN 3) with o := encM (Config.encMaxN 3) }
    dec := DecRegs.started (Config.decMaxL 3) }

/-- The invariant can be met under a finite `LEN_W` with both lengths at their bound, where O59 says the most. -/
theorem inv_atTheBound :
    Inv atTheBound ∧ atTheBound.lenW = some 3 ∧ atTheBound.enc.o = 4 ∧ atTheBound.dec.len = 7 := by
  have hmem : MemoriesWf atTheBound := ⟨rfl, rfl, rfl, rfl, rfl⟩
  have henc : EncInv atTheBound := ⟨rfl, Nat.le_refl _, rfl⟩
  have hdec : DecInv atTheBound := ⟨rfl, Nat.zero_le _, Nat.zero_le _, rfl⟩
  have hplaced : PlacementSupported atTheBound := fun u _ => by cases u <;> rfl
  exact ⟨⟨hmem, henc, hdec, hplaced⟩, rfl, rfl, rfl⟩

end Sys2Proof.Machine
end

section
/-! PROOFS. Rules about the state that the steps of both units need: the flags by the state of the unit (10_state.md R25),
windows that do not overlap, what a supported placement rules out (70_reset_and_hazards.md R231), and a write of several bytes
in a row. -/

namespace Sys2Proof.Machine

/-! ## The flags -/

theorem encBusy_iff {s : State} : encBusy s = true ↔ s.enc.st = .run := by simp [encBusy]

theorem encDone_iff {s : State} : encDone s = true ↔ s.enc.st = .done := by simp [encDone]

theorem decBusy_iff {s : State} :
    decBusy s = true ↔ s.dec.st = .check ∨ s.dec.st = .scan ∨ s.dec.st = .repack := by
  simp [decBusy, or_assoc]

theorem decDone_iff {s : State} : decDone s = true ↔ s.dec.st = .done := by simp [decDone]

/-! ## Windows that do not overlap -/

theorem State.overlap_comm (s : State) (sp sp₂ : Space) : s.overlap sp sp₂ = s.overlap sp₂ sp := by
  unfold State.overlap
  cases s.bufMap.window sp <;> cases s.bufMap.window sp₂ <;> simp [max_comm, min_comm]

/-- A write into one buffer is not seen in another whose window does not overlap it. -/
theorem State.byteAt_setByte_of_overlap {s : State} {sp sp₂ : Space} (hne : sp ≠ sp₂)
    (h : s.overlap sp sp₂ = false) (k j : Nat) (v : Byte) : (s.setByte sp k v).byteAt sp₂ j = s.byteAt sp₂ j :=
  State.byteAt_setByte_of_ne s (State.sameEntry_of_overlap hne h k j) v

/-- A write of one entry leaves the other entries of the buffer alone. -/
theorem State.byteAt_setByte_self (s : State) (sp : Space) (k j : Nat) (v : Byte) :
    (s.setByte sp k v).byteAt sp j = if j = k then v else s.byteAt sp j := by
  split
  · next h => rw [h, State.byteAt_setByte_same]
  · next h => exact State.byteAt_setByte_of_ne s (by simpa using Ne.symm h) v

/-- What a supported placement rules out for the encoder (R231). -/
theorem State.unsupported_enc_eq_false {s : State} :
    s.unsupported .enc = false ↔ s.overlap .encIn .encOut = false ∧ (decBusy s = true → s.unitsOverlap = false) := by
  simp [State.unsupported, inSpace, outSpace, otherUnit, busy]

/-- What a supported placement rules out for the decoder (R231). -/
theorem State.unsupported_dec_eq_false {s : State} :
    s.unsupported .dec = false ↔ s.overlap .decIn .decOut = false ∧ (encBusy s = true → s.unitsOverlap = false) := by
  simp [State.unsupported, inSpace, outSpace, otherUnit, busy]

theorem State.overlap_encOut_decIn_of_unitsOverlap {s : State} (h : s.unitsOverlap = false) :
    s.overlap .encOut .decIn = false := by
  simp only [State.unitsOverlap, Bool.or_eq_false_iff] at h
  exact h.1.2

/-! ## Several bytes in a row -/

/-- The state with the bytes `l` at index `k` of space `sp` and up, written in rising order (R172 to R174). -/
def State.writeBytes (s : State) (sp : Space) (k : Nat) : List Byte → State
  | [] => s
  | v :: l => (s.setByte sp k v).writeBytes sp (k + 1) l

@[simp] theorem State.writeBytes_nil (s : State) (sp : Space) (k : Nat) : s.writeBytes sp k [] = s := rfl

@[simp] theorem State.writeBytes_cons (s : State) (sp : Space) (k : Nat) (v : Byte) (l : List Byte) :
    s.writeBytes sp k (v :: l) = (s.setByte sp k v).writeBytes sp (k + 1) l := rfl

/-- What no single write changes, several do not change. -/
theorem State.writeBytes_induction {P : State → Prop} {sp : Space} (hset : ∀ t k v, P t → P (t.setByte sp k v))
    (l : List Byte) {s : State} (k : Nat) (h : P s) : P (s.writeBytes sp k l) := by
  induction l generalizing s k with
  | nil => exact h
  | cons v l ih => exact ih (k + 1) (hset s k v h)

@[simp] theorem State.writeBytes_enc (s : State) (sp : Space) (k : Nat) (l : List Byte) :
    (s.writeBytes sp k l).enc = s.enc :=
  writeBytes_induction (P := fun t => t.enc = s.enc) (by simp) l k rfl

@[simp] theorem State.writeBytes_dec (s : State) (sp : Space) (k : Nat) (l : List Byte) :
    (s.writeBytes sp k l).dec = s.dec :=
  writeBytes_induction (P := fun t => t.dec = s.dec) (by simp) l k rfl

@[simp] theorem State.writeBytes_lenW (s : State) (sp : Space) (k : Nat) (l : List Byte) :
    (s.writeBytes sp k l).lenW = s.lenW :=
  writeBytes_induction (P := fun t => t.lenW = s.lenW) (by simp) l k rfl

@[simp] theorem State.writeBytes_bufMap (s : State) (sp : Space) (k : Nat) (l : List Byte) :
    (s.writeBytes sp k l).bufMap = s.bufMap :=
  writeBytes_induction (P := fun t => t.bufMap = s.bufMap) (by simp) l k rfl

@[simp] theorem State.writeBytes_agenda (s : State) (sp : Space) (k : Nat) (l : List Byte) :
    (s.writeBytes sp k l).agenda = s.agenda :=
  writeBytes_induction (P := fun t => t.agenda = s.agenda) (by simp) l k rfl

@[simp] theorem State.holds_writeBytes (s : State) (sp sp₂ : Space) (k j : Nat) (l : List Byte) :
    (s.writeBytes sp k l).holds sp₂ j = s.holds sp₂ j :=
  writeBytes_induction (P := fun t => t.holds sp₂ j = s.holds sp₂ j) (by simp) l k rfl

/-- Bytes written into one buffer are not seen in another whose window does not overlap it. -/
theorem State.byteAt_writeBytes_of_overlap {s : State} {sp sp₂ : Space} (hne : sp ≠ sp₂)
    (h : s.overlap sp sp₂ = false) (k j : Nat) (l : List Byte) : (s.writeBytes sp k l).byteAt sp₂ j = s.byteAt sp₂ j :=
  (writeBytes_induction (P := fun t => t.overlap sp sp₂ = false ∧ t.byteAt sp₂ j = s.byteAt sp₂ j)
    (fun _ i v ht => ⟨(State.setByte_overlap ..).trans ht.1,
      (State.byteAt_setByte_of_overlap hne ht.1 i j v).trans ht.2⟩) l k ⟨h, rfl⟩).2

/-- Entries below the first one written are as before. -/
theorem State.byteAt_writeBytes_of_lt {s : State} {sp : Space} {k j : Nat} (h : j < k) (l : List Byte) :
    (s.writeBytes sp k l).byteAt sp j = s.byteAt sp j := by
  induction l generalizing s k with
  | nil => rfl
  | cons v l ih =>
    rw [State.writeBytes_cons, ih (by omega), State.byteAt_setByte_self, if_neg (by omega)]

/-- The bytes written read back. -/
theorem State.byteAt_writeBytes_add {s : State} {sp : Space} {k j : Nat} {l : List Byte} (h : j < l.length) :
    (s.writeBytes sp k l).byteAt sp (k + j) = byteOf l j := by
  induction l generalizing s k j with
  | nil => cases h
  | cons v l ih =>
    cases j with
    | zero => simp [State.byteAt_writeBytes_of_lt, byteOf]
    | succ j =>
      have hj : j < l.length := by simpa using h
      rw [State.writeBytes_cons, show k + (j + 1) = k + 1 + j by omega, ih hj]
      rfl

/-- Entries `k` to `k + n - 1` of space `sp` exist (R34). -/
def State.HoldsFrom (s : State) (sp : Space) (k n : Nat) : Prop := ∀ j, j < n → s.holds sp (k + j) = true

@[simp] theorem State.holdsFrom_zero (s : State) (sp : Space) (k : Nat) : s.HoldsFrom sp k 0 := fun _ h => by cases h

@[simp] theorem State.holdsFrom_succ (s : State) (sp : Space) (k n : Nat) :
    s.HoldsFrom sp k (n + 1) ↔ s.holds sp k = true ∧ s.HoldsFrom sp (k + 1) n := by
  constructor
  · exact fun h => ⟨h 0 (Nat.succ_pos n), fun j hj => by
      rw [show k + 1 + j = k + (j + 1) by omega]; exact h (j + 1) (by omega)⟩
  · rintro ⟨h0, h⟩ j hj
    cases j with
    | zero => exact h0
    | succ j => rw [show k + (j + 1) = k + 1 + j by omega]; exact h j (by omega)

/-! ## The canonical form -/

/-- An entry of a placed buffer exists only where the system's memory has its address (R34, R58). -/
theorem State.sysMem_holds_of_addrOf {s : State} {sp : Space} {k a : Nat} (ha : s.addrOf sp k = some a)
    (hk : s.holds sp k = true) : s.sysMem.holds a = true := by
  unfold State.addrOf at ha
  unfold State.holds at hk
  cases hw : s.bufMap.window sp with
  | none => simp [hw] at ha
  | some w =>
    simp only [hw, Bool.and_eq_true, decide_eq_true_eq] at ha hk
    rw [if_pos hk.1, Option.some.injEq] at ha
    exact ha ▸ hk.2

/-- An entry at no address exists only where the memory inside the block has it (R34). -/
theorem State.mem_holds_of_addrOf_eq_none {s : State} {sp : Space} {k : Nat} (ha : s.addrOf sp k = none)
    (hk : s.holds sp k = true) : (s.mem sp).holds k = true := by
  unfold State.addrOf at ha
  unfold State.holds at hk
  cases hw : s.bufMap.window sp with
  | none => simpa [hw] using hk
  | some w =>
    simp only [hw, Bool.and_eq_true, decide_eq_true_eq] at ha hk
    simp [if_pos hk.1] at ha

/-- A write of an entry that exists keeps every memory in canonical form. -/
theorem MemoriesWf.setByte {s : State} (h : MemoriesWf s) {sp : Space} {k : Nat} (hk : s.holds sp k = true) (v : Byte) :
    MemoriesWf (s.setByte sp k v) := by
  obtain ⟨hei, heo, hdi, hdo, hsys⟩ := h
  unfold State.setByte
  cases ha : s.addrOf sp k with
  | some a => exact ⟨hei, heo, hdi, hdo, Memory.wf_set a v hsys (State.sysMem_holds_of_addrOf ha hk)⟩
  | none =>
    have hm := State.mem_holds_of_addrOf_eq_none ha hk
    cases sp with
    | encIn => exact ⟨Memory.wf_set k v hei hm, heo, hdi, hdo, hsys⟩
    | encOut => exact ⟨hei, Memory.wf_set k v heo hm, hdi, hdo, hsys⟩
    | decIn => exact ⟨hei, heo, Memory.wf_set k v hdi hm, hdo, hsys⟩
    | decOut => exact ⟨hei, heo, hdi, Memory.wf_set k v hdo hm, hsys⟩

/-- A write of several entries that exist keeps every memory in canonical form. -/
theorem MemoriesWf.writeBytes {s : State} (h : MemoriesWf s) {sp : Space} {k : Nat} {l : List Byte}
    (hk : s.HoldsFrom sp k l.length) : MemoriesWf (s.writeBytes sp k l) := by
  induction l generalizing s k with
  | nil => exact h
  | cons v l ih =>
    obtain ⟨hfirst, hrest⟩ := (State.holdsFrom_succ ..).1 hk
    exact ih (h.setByte hfirst v) (fun j hj => (State.holds_setByte ..).trans (hrest j hj))

end Sys2Proof.Machine
end

section
/-! PROOFS. One step of the encoder (41_encoder.md R120 to R131): which micro-operation its select vector selects, and all
that a step can do. -/

namespace Sys2Proof.Machine

/-- The character of the encoder's next writing step: the symbol of the group's field `sel`, or `=` past the group's last
byte (R122 to R127). -/
def State.encNextChar (s : State) : Byte :=
  if s.encSel ≤ s.encRem then encLut (encIdx s.encSel s.encGroupBytes.1 s.encGroupBytes.2.1 s.encGroupBytes.2.2)
  else Config.padChar

/-- The state after the encoder's writing step (R131). -/
def State.encWritten (s : State) : State := (s.setByte .encOut s.enc.o s.encNextChar).setEncO (s.enc.o + 1)

/-- The state after `ENC.FINISH` (R128). -/
def State.encFinished (s : State) : State := s.setEnc { s.enc with outLen := s.enc.o, st := .done }

/-- Every byte that the encoder's group fetch reads exists (R120). -/
def State.EncGroupHeld (s : State) : Prop :=
  s.holds .encIn s.encBase = true ∧ (2 ≤ s.encRem → s.holds .encIn (s.encBase + 1) = true) ∧
  (s.encRem = 3 → s.holds .encIn (s.encBase + 2) = true)

/-- Before the end a group has one to three bytes (R120). -/
theorem State.encRem_of_lt {s : State} (h : s.enc.o < s.encM) : 1 ≤ s.encRem ∧ s.encRem ≤ 3 := by
  simp only [State.encM, Machine.encM] at h
  simp only [State.encRem, State.encBase]
  omega

theorem State.encStepAt_encSel {s : State} (hrun : s.enc.st = .run) (ho : s.enc.o < s.encM) {k : Nat}
    (hk : s.encSel = k) : s.encStepAt k = true := by
  simp [State.encStepAt, hrun, ho, hk]

/-- Before the end the vector of R84 shows `sel` and whether the group has that character. -/
theorem State.encSelect_of_lt {s : State} (ho : s.enc.o < s.encM) {k : Nat} {v : Bool} (hsel : s.encSel = k)
    (hv : decide (k ≤ s.encRem) = v) : s.encSelect = BitVec.ofBool false ++ BitVec.ofNat 2 k ++ BitVec.ofBool v := by
  rw [← hv, ← hsel]
  exact if_neg (Nat.ne_of_lt ho)

/-- The group fetch before the write, then the write (R120, R131). -/
theorem readEncGroup_encPut_eq_next {s t : State} {f : Byte → Byte → Byte → Byte}
    (hf : f s.encGroupBytes.1 s.encGroupBytes.2.1 s.encGroupBytes.2.2 = s.encNextChar) :
    readEncGroup s (fun b0 b1 b2 => encPut (f b0 b1 b2) s) = .next t ↔
      s.EncGroupHeld ∧ s.holds .encOut s.enc.o = true ∧ s.encWritten = t := by
  rw [readEncGroup_eq_next, encPut_eq_next, hf]
  simp only [State.EncGroupHeld, State.encWritten, and_assoc]

/-- Before the end the vector of R84 selects a micro-operation that fetches its group and writes the next character: one case
for each row of the table. -/
theorem exists_encSelected_of_lt {s : State} (hrun : s.enc.st = .run) (ho : s.enc.o < s.encM) :
    ∃ op, selectOf encSelectTable s.encSelect = some op ∧ ∀ t, execEncOp op s = .next t ↔
      s.EncGroupHeld ∧ s.holds .encOut s.enc.o = true ∧ s.encWritten = t := by
  obtain ⟨hlo, hhi⟩ := State.encRem_of_lt ho
  have hlt : s.encSel < 4 := Nat.mod_lt _ (by decide)
  have hcases : s.encSel = 0 ∨ s.encSel = 1 ∨ (s.encSel = 2 ∧ 2 ≤ s.encRem) ∨ (s.encSel = 2 ∧ s.encRem = 1) ∨
      (s.encSel = 3 ∧ s.encRem = 3) ∨ (s.encSel = 3 ∧ s.encRem ≤ 2) := by omega
  rcases hcases with hsel | hsel | ⟨hsel, hrem⟩ | ⟨hsel, hrem⟩ | ⟨hsel, hrem⟩ | ⟨hsel, hrem⟩
  case inl =>
    refine ⟨.sym0, by rw [State.encSelect_of_lt ho hsel (v := true) (by simp)]; rfl, fun t => ?_⟩
    simp only [execEncOp, execEncSym0, State.encStepAt_encSel hrun ho hsel, if_true]
    exact readEncGroup_encPut_eq_next (by simp [State.encNextChar, hsel, encIdx])
  case inr.inl =>
    refine ⟨.sym1, by rw [State.encSelect_of_lt ho hsel (v := true) (by simpa using hlo)]; rfl, fun t => ?_⟩
    simp only [execEncOp, execEncSym1, State.encStepAt_encSel hrun ho hsel, if_true]
    exact readEncGroup_encPut_eq_next (by simp [State.encNextChar, hsel, encIdx, hlo])
  case inr.inr.inl =>
    refine ⟨.sym2, by rw [State.encSelect_of_lt ho hsel (v := true) (by simpa using hrem)]; rfl, fun t => ?_⟩
    simp only [execEncOp, execEncSym2, State.encStepAt_encSel hrun ho hsel, hrem, decide_true, Bool.and_self, if_true]
    exact readEncGroup_encPut_eq_next (by simp [State.encNextChar, hsel, encIdx, hrem])
  case inr.inr.inr.inl =>
    refine ⟨.pad2, by rw [State.encSelect_of_lt ho hsel (v := false) (by simp [hrem])]; rfl, fun t => ?_⟩
    simp only [execEncOp, execEncPad2, State.encStepAt_encSel hrun ho hsel, hrem, beq_self_eq_true, Bool.and_self, if_true]
    exact readEncGroup_encPut_eq_next (by simp [State.encNextChar, hsel, hrem])
  case inr.inr.inr.inr.inl =>
    refine ⟨.sym3, by rw [State.encSelect_of_lt ho hsel (v := true) (by simp [hrem])]; rfl, fun t => ?_⟩
    simp only [execEncOp, execEncSym3, State.encStepAt_encSel hrun ho hsel, hrem, beq_self_eq_true, Bool.and_self, if_true]
    exact readEncGroup_encPut_eq_next (by simp [State.encNextChar, hsel, encIdx, hrem])
  case inr.inr.inr.inr.inr =>
    have hpast : ¬ 3 ≤ s.encRem := by omega
    refine ⟨.pad3, by rw [State.encSelect_of_lt ho hsel (v := false) (by simpa using hpast)]; rfl, fun t => ?_⟩
    simp only [execEncOp, execEncPad3, State.encStepAt_encSel hrun ho hsel, hrem, decide_true, Bool.and_self, if_true]
    exact readEncGroup_encPut_eq_next (by simp [State.encNextChar, hsel, hpast])

/-- With a supported placement a step of the encoder is the micro-operation that its vector selects (R84). -/
theorem encStep_of_select {s : State} (hu : s.unsupported .enc = false) {op : EncOp}
    (hop : selectOf encSelectTable s.encSelect = some op) : encStep s = execEncOp op s := by
  simp [encStep, hu, hop]

/-- A step of the encoder gives a next state with a supported placement only (R231). -/
theorem supported_of_encStep_eq_next {s t : State} (h : encStep s = .next t) : s.unsupported .enc = false := by
  unfold encStep at h
  split at h
  · cases h
  · next hu => simpa using hu

/-- Before the end a step of the encoder writes the next character, from bytes that must exist (R120, R131). -/
theorem encStep_eq_next_of_lt {s t : State} (hrun : s.enc.st = .run) (ho : s.enc.o < s.encM) :
    encStep s = .next t ↔
      s.unsupported .enc = false ∧ s.EncGroupHeld ∧ s.holds .encOut s.enc.o = true ∧ s.encWritten = t := by
  obtain ⟨op, hsel, hop⟩ := exists_encSelected_of_lt hrun ho
  constructor
  · intro h
    have hu := supported_of_encStep_eq_next h
    exact ⟨hu, (hop t).1 (encStep_of_select hu hsel ▸ h)⟩
  · rintro ⟨hu, h⟩
    exact (encStep_of_select hu hsel).trans ((hop t).2 h)

/-- At the end a step of the encoder is `ENC.FINISH` (R84, R128). -/
theorem encStep_eq_next_of_eq {s t : State} (hrun : s.enc.st = .run) (ho : s.enc.o = s.encM) :
    encStep s = .next t ↔ s.unsupported .enc = false ∧ s.encFinished = t := by
  have hsel : selectOf encSelectTable s.encSelect = some .finish := by simp only [State.encSelect, ho, if_true]; rfl
  have hop : execEncOp .finish s = .next s.encFinished := by
    simp [execEncOp, execEncFinish, hrun, ho, State.encFinished]
  constructor
  · intro h
    have hu := supported_of_encStep_eq_next h
    rw [encStep_of_select hu hsel, hop] at h
    exact ⟨hu, by injection h⟩
  · rintro ⟨hu, rfl⟩
    exact (encStep_of_select hu hsel).trans hop

/-- The state after the encoder's next step. -/
def State.encNext (s : State) : State := if s.enc.o = s.encM then s.encFinished else s.encWritten

/-- Every entry that the encoder's next step uses exists. -/
def State.EncHeld (s : State) : Prop := s.enc.o < s.encM → s.EncGroupHeld ∧ s.holds .encOut s.enc.o = true

/-- A running encoder within its output steps to `encNext`, exactly where its placement is supported and every entry that
the step uses exists. -/
theorem encStep_eq_next {s t : State} (hrun : s.enc.st = .run) (ho : s.enc.o ≤ s.encM) :
    encStep s = .next t ↔ s.unsupported .enc = false ∧ s.EncHeld ∧ s.encNext = t := by
  rcases Nat.lt_or_eq_of_le ho with hlt | heq
  · simp [encStep_eq_next_of_lt hrun hlt, State.EncHeld, State.encNext, hlt, Nat.ne_of_lt hlt, and_assoc]
  · simp [encStep_eq_next_of_eq hrun heq, State.EncHeld, State.encNext, heq]

/-! ## What the encoder's step leaves unchanged -/

@[simp] theorem State.encNext_dec (s : State) : s.encNext.dec = s.dec := by
  unfold State.encNext State.encFinished State.encWritten; split <;> simp

@[simp] theorem State.encNext_lenW (s : State) : s.encNext.lenW = s.lenW := by
  unfold State.encNext State.encFinished State.encWritten; split <;> simp

@[simp] theorem State.encNext_bufMap (s : State) : s.encNext.bufMap = s.bufMap := by
  unfold State.encNext State.encFinished State.encWritten; split <;> simp

@[simp] theorem State.encNext_agenda (s : State) : s.encNext.agenda = s.agenda := by
  unfold State.encNext State.encFinished State.encWritten; split <;> simp

@[simp] theorem State.encNext_holds (s : State) (sp : Space) (k : Nat) : s.encNext.holds sp k = s.holds sp k := by
  unfold State.encNext State.encFinished State.encWritten; split <;> simp

@[simp] theorem State.encNext_enc_len (s : State) : s.encNext.enc.len = s.enc.len := by
  unfold State.encNext State.encFinished State.encWritten; split <;> simp

@[simp] theorem State.encNext_encM (s : State) : s.encNext.encM = s.encM := by simp [State.encM]

/-- The last step publishes the length (R128). -/
theorem State.encNext_enc_of_eq {s : State} (ho : s.enc.o = s.encM) :
    s.encNext.enc = { s.enc with outLen := s.enc.o, st := .done } := by
  simp [State.encNext, if_pos ho, State.encFinished]

/-- Each step before it moves on to the next character (R131). -/
theorem State.encNext_enc_of_lt {s : State} (ho : s.enc.o < s.encM) :
    s.encNext.enc = { s.enc with o := s.enc.o + 1 } := by
  simp [State.encNext, if_neg (Nat.ne_of_lt ho), State.encWritten]

/-- `ENC.FINISH` touches no buffer (R128). -/
theorem State.encNext_byteAt_of_eq {s : State} (ho : s.enc.o = s.encM) (sp : Space) (k : Nat) :
    s.encNext.byteAt sp k = s.byteAt sp k := by
  simp [State.encNext, if_pos ho, State.encFinished]

/-- Each step before it writes the next character at `ENC.o` and no other entry of `ENC.OUT` (R131). -/
theorem State.encNext_byteAt_encOut {s : State} (ho : s.enc.o < s.encM) (k : Nat) :
    s.encNext.byteAt .encOut k = if k = s.enc.o then s.encNextChar else s.byteAt .encOut k := by
  simp [State.encNext, if_neg (Nat.ne_of_lt ho), State.encWritten, State.byteAt_setByte_self]

/-- The encoder's step is not seen in a buffer that does not overlap `ENC.OUT`. -/
theorem State.encNext_byteAt_of_overlap {s : State} {sp : Space} (hne : .encOut ≠ sp) (h : s.overlap .encOut sp = false)
    (k : Nat) : s.encNext.byteAt sp k = s.byteAt sp k := by
  unfold State.encNext State.encFinished State.encWritten
  split
  · simp
  · simp [State.byteAt_setByte_of_overlap hne h]

end Sys2Proof.Machine
end

section
/-! PROOFS. One step of the decoder (42_decoder_validation.md R141 to R150, 43_decoder_repack.md R170 to R177): the shapes of
the groups of a validated string, and all that a step can do under the unit's invariant. -/

namespace Sys2Proof.Machine

/-! ## The next state of the decoder -/

/-- The decoder's registers after `raise k` (R196). -/
def DecRegs.raised (r : DecRegs) (k : ErrKind) : DecRegs := { r with err := some k, outLen := 0, st := .done }

/-- The decoder's registers after `DEC.CHECK` (R141). -/
def DecRegs.checked (r : DecRegs) : DecRegs :=
  if r.len = 0 then { r with st := .done }
  else if r.len % 4 ≠ 0 then r.raised .lengthError
  else { r with st := .scan }

/-- The decoder's registers after the scan of a character of the given class (R143 to R145). -/
def DecRegs.scanned (r : DecRegs) : Cls → DecRegs
  | .val v => if r.pad ≠ 0 then r.raised .invalidPaddingError else { r with prev := v, i := r.i + 1 }
  | .pad =>
    if r.i + 2 < r.len then r.raised .invalidPaddingError
    else { r with tailbad := tailbadAfterPad r, pad := r.pad + 1, i := r.i + 1 }
  | .inv => r.raised .invalidCharacterError

/-- The decoder's registers after `DEC.SCAN.END` (R146). -/
def DecRegs.judged (r : DecRegs) : DecRegs :=
  if r.tailbad then r.raised .invalidPaddingError else { r with st := .repack }

/-- The decoder's registers after `DEC.FINISH` (R175). -/
def DecRegs.finished (r : DecRegs) : DecRegs := { r with outLen := decResultLen r.len r.pad.val, st := .done }

/-- What a step of the validation keeps: the length, the group number, and that there is no result yet. -/
structure DecRegs.Validates (r r' : DecRegs) : Prop where
  len : r'.len = r.len
  g : r'.g = r.g
  outLen : r.outLen = 0 → r'.outLen = 0

theorem DecRegs.validates_raised (r : DecRegs) (k : ErrKind) : r.Validates (r.raised k) := ⟨rfl, rfl, fun _ => rfl⟩

theorem DecRegs.validates_checked (r : DecRegs) : r.Validates r.checked := by
  unfold DecRegs.checked
  split
  · exact ⟨rfl, rfl, id⟩
  · split
    · exact r.validates_raised _
    · exact ⟨rfl, rfl, id⟩

theorem DecRegs.validates_scanned (r : DecRegs) (k : Cls) : r.Validates (r.scanned k) := by
  cases k with
  | val v =>
    simp only [DecRegs.scanned]
    split
    · exact r.validates_raised _
    · exact ⟨rfl, rfl, id⟩
  | pad =>
    simp only [DecRegs.scanned]
    split
    · exact r.validates_raised _
    · exact ⟨rfl, rfl, id⟩
  | inv => exact r.validates_raised _

theorem DecRegs.validates_judged (r : DecRegs) : r.Validates r.judged := by
  unfold DecRegs.judged
  split
  · exact r.validates_raised _
  · exact ⟨rfl, rfl, id⟩

/-- The bytes of the decoder's current group (R176). -/
def State.decGroupBytes (s : State) : List Byte :=
  groupBytes (s.byteAt .decIn (4 * s.dec.g)) (s.byteAt .decIn (4 * s.dec.g + 1)) (s.byteAt .decIn (4 * s.dec.g + 2))
    (s.byteAt .decIn (4 * s.dec.g + 3))

/-- The state after the repack of the current group (R172 to R174). -/
def State.decRepacked (s : State) : State :=
  (s.writeBytes .decOut (3 * s.dec.g) s.decGroupBytes).setDecG (s.dec.g + 1)

@[simp] theorem State.decRepacked_dec (s : State) : s.decRepacked.dec = { s.dec with g := s.dec.g + 1 } := by
  simp [State.decRepacked]

/-- A repack does not touch the characters: `DEC.IN` and `DEC.OUT` do not overlap (R231). -/
theorem State.decRepacked_byteAt_decIn {s : State} (hov : s.overlap .decIn .decOut = false) (k : Nat) :
    s.decRepacked.byteAt .decIn k = s.byteAt .decIn k := by
  have hcomm := (s.overlap_comm .decOut .decIn).trans hov
  simp [State.decRepacked, State.byteAt_writeBytes_of_overlap (by decide) hcomm]

/-- The state after the decoder's next step. -/
def State.decNext (s : State) : State :=
  match s.dec.st with
  | .idle => s
  | .check => s.setDec s.dec.checked
  | .scan =>
    if s.dec.i = s.dec.len then s.setDec s.dec.judged else s.setDec (s.dec.scanned (s.decCls s.dec.i))
  | .repack => if s.dec.g = s.decNG then s.setDec s.dec.finished else s.decRepacked
  | .done => s

/-- Every entry that the decoder's next step uses exists. -/
def State.DecHeld (s : State) : Prop :=
  (s.dec.st = .scan → s.dec.i < s.dec.len → s.holds .decIn s.dec.i = true) ∧
  (s.dec.st = .repack → s.dec.g < s.decNG →
    s.holdsGroup = true ∧ s.HoldsFrom .decOut (3 * s.dec.g) s.decGroupBytes.length)

@[simp] theorem State.setDec_decCls (s : State) (r : DecRegs) (k : Nat) : (s.setDec r).decCls k = s.decCls k := by
  simp [State.decCls]

/-! ## The word presented -/

/-- With a supported placement a step of the decoder is the meaning of the word that its state presents. -/
theorem decStep_of_word {s : State} {p : PortWord} (hu : s.unsupported .dec = false) (hp : decWord s = .ok (some p)) :
    decStep s = execDecWord p s := by
  simp [decStep, unitWord, hu, hp]

/-- A step of a busy decoder gives a next state with a supported placement only (R231). -/
theorem supported_of_decStep_eq_next {s t : State} (hb : decBusy s = true) (h : decStep s = .next t) :
    s.unsupported .dec = false := by
  cases hu : s.unsupported .dec with
  | false => rfl
  | true => simp [decStep, unitWord, busy, hb, hu] at h

/-- A step of a busy decoder whose word is refused is refused. -/
theorem decStep_ne_next_of_word_error {s t : State} {r : Refusal} (hb : decBusy s = true) (hp : decWord s = .error r) :
    decStep s ≠ .next t := fun h => by
  have hu := supported_of_decStep_eq_next hb h
  simp [decStep, unitWord, hu, hp] at h

/-- What a step of a busy decoder can do is what the word it presents can do, where the placement is supported. -/
theorem decStep_eq_next_of_word {s t : State} {p : PortWord} (hb : decBusy s = true) (hp : decWord s = .ok (some p)) :
    decStep s = .next t ↔ s.unsupported .dec = false ∧ execDecWord p s = .next t := by
  constructor
  · intro h
    have hu := supported_of_decStep_eq_next hb h
    exact ⟨hu, decStep_of_word hu hp ▸ h⟩
  · rintro ⟨hu, h⟩
    exact (decStep_of_word hu hp).trans h

/-! ## Validation -/

theorem execDecCheck_of_check {s : State} (hst : s.dec.st = .check) : execDecCheck s = .next (s.setDec s.dec.checked) := by
  simp only [execDecCheck, DecRegs.checked, hst, beq_self_eq_true, if_true]
  split
  · rfl
  · split <;> rfl

theorem execDecScanEnd_of_eq {s : State} (hst : s.dec.st = .scan) (hi : s.dec.i = s.dec.len) :
    execDecScanEnd s = .next (s.setDec s.dec.judged) := by
  have hend : (s.dec.st == .scan && s.dec.i == s.dec.len) = true := by simp [hst, hi]
  simp only [execDecScanEnd, DecRegs.judged, hend, if_true]
  split <;> rfl

/-- While characters are left fewer than two `=` have been accepted (R88, R145). -/
theorem Scanned.pad_lt_two {s : State} (h : Scanned s) (hi : s.dec.i < s.dec.len) : s.dec.pad.val < 2 := by
  obtain ⟨-, -, -, -, -, -, -, -, hlast, -⟩ := h
  omega

theorem acceptPad_of_scanned {s : State} (h : Scanned s) (hi : s.dec.i < s.dec.len) :
    acceptPad s = .next (s.setDec (s.dec.scanned .pad)) := by
  have hpad := h.pad_lt_two hi
  have hadd : (⟨s.dec.pad.val + 1, by omega⟩ : Fin 3) = s.dec.pad + 1 := by
    apply Fin.ext
    rw [Fin.val_add_one_of_lt' (by omega)]
  simp only [acceptPad, DecRegs.scanned]
  split
  · rfl
  · rw [dif_pos (by omega), hadd]
    rfl

theorem raise_invalidCharacter_eq_setDec (s : State) : raise .invalidCharacterError s = s.setDec (s.dec.scanned .inv) := rfl

theorem acceptVal_eq_setDec (v : Idx) (s : State) : acceptVal v s = s.setDec (s.dec.scanned (.val v)) := by
  simp only [acceptVal, DecRegs.scanned]
  split <;> rfl

theorem selectOf_scanVector_val (v : Idx) : selectOf scanSelectTable (scanVector (.val v)) = some .val := by
  change selectOf scanSelectTable (BitVec.ofBool false ++ 0b00) = _
  rfl

theorem selectOf_scanVector_pad : selectOf scanSelectTable (scanVector .pad) = some .pad := rfl

theorem selectOf_scanVector_inv : selectOf scanSelectTable (scanVector .inv) = some .inv := rfl

/-- While characters are left the class of the next one selects the micro-operation for it (R85, R142 to R145). -/
theorem execDecWord_scanVector {s t : State} (hscan : Scanned s) (hst : s.dec.st = .scan) (hi : s.dec.i < s.dec.len) :
    execDecWord (.scanSel (scanVector (s.decCls s.dec.i))) s = .next t ↔
      s.holds .decIn s.dec.i = true ∧ s.setDec (s.dec.scanned (s.decCls s.dec.i)) = t := by
  have hscanning : s.decScanning = true := by simp [State.decScanning, hst, hi]
  cases hc : s.decCls s.dec.i with
  | val v =>
    simp only [execDecWord, selectOf_scanVector_val, execScanOp, execDecScanVal, hscanning, if_true, readScan_eq_next, hc,
      Host.Outcome.next.injEq, acceptVal_eq_setDec]
  | pad =>
    simp only [execDecWord, selectOf_scanVector_pad, execScanOp, execDecScanPad, hscanning, if_true, readScan_eq_next, hc,
      acceptPad_of_scanned hscan hi, Host.Outcome.next.injEq]
  | inv =>
    simp only [execDecWord, selectOf_scanVector_inv, execScanOp, execDecScanInv, hscanning, if_true, readScan_eq_next, hc,
      Host.Outcome.next.injEq, raise_invalidCharacter_eq_setDec]

/-! ## Repacking -/

/-- The table entry of a symbol is not the one of `=`, and gives the symbol's value back (R78). -/
theorem symbolEntry : ∀ v : Idx, v.setWidth 8 ≠ Config.padEntry ∧ (v.setWidth 8).setWidth 6 = v := by decide

/-- A full group (R172). -/
theorem groupBytes_full {c0 c1 c2 c3 : Byte} {v0 v1 v2 v3 : Idx} (h0 : cls c0 = .val v0) (h1 : cls c1 = .val v1)
    (h2 : cls c2 = .val v2) (h3 : cls c3 = .val v3) :
    groupBytes c0 c1 c2 c3 = [byte0 v0 v1, byte1 v1 v2, byte2 v2 v3] := by
  simp [groupBytes, valueOf, cls_eq_val.1 h0, cls_eq_val.1 h1, cls_eq_val.1 h2, cls_eq_val.1 h3, symbolEntry]

/-- A group with one `=` (R173). -/
theorem groupBytes_one_pad {c0 c1 c2 c3 : Byte} {v0 v1 v2 : Idx} (h0 : cls c0 = .val v0) (h1 : cls c1 = .val v1)
    (h2 : cls c2 = .val v2) (h3 : cls c3 = .pad) : groupBytes c0 c1 c2 c3 = [byte0 v0 v1, byte1 v1 v2] := by
  simp [groupBytes, valueOf, cls_eq_val.1 h0, cls_eq_val.1 h1, cls_eq_val.1 h2, cls_eq_pad.1 h3, symbolEntry]

/-- A group with two `=` (R174). -/
theorem groupBytes_two_pads {c0 c1 c2 c3 : Byte} {v0 v1 : Idx} (h0 : cls c0 = .val v0) (h1 : cls c1 = .val v1)
    (h2 : cls c2 = .pad) (h3 : cls c3 = .pad) : groupBytes c0 c1 c2 c3 = [byte0 v0 v1] := by
  simp [groupBytes, cls_eq_val.1 h0, cls_eq_val.1 h1, cls_eq_pad.1 h2, cls_eq_pad.1 h3]

/-- The number of `=` in the decoder's current group: all of the string's in the last group, none before (R147). -/
def State.decGroupPad (s : State) : Nat := if s.dec.g + 1 = s.decNG then s.dec.pad.val else 0

/-- The classes of the current group of a validated string: symbols but for its `=` at the end (R147, R176). -/
def State.GroupShape (s : State) : Prop :=
  ∃ v0 v1, s.decCls (4 * s.dec.g) = .val v0 ∧ s.decCls (4 * s.dec.g + 1) = .val v1 ∧
    ((s.decGroupPad = 0 ∧ ∃ v2 v3, s.decCls (4 * s.dec.g + 2) = .val v2 ∧ s.decCls (4 * s.dec.g + 3) = .val v3) ∨
     (s.decGroupPad = 1 ∧ ∃ v2, s.decCls (4 * s.dec.g + 2) = .val v2 ∧ s.decCls (4 * s.dec.g + 3) = .pad) ∨
     (s.decGroupPad = 2 ∧ s.decCls (4 * s.dec.g + 2) = .pad ∧ s.decCls (4 * s.dec.g + 3) = .pad))

/-- The groups of a validated string have one of three shapes (R150, R177). -/
theorem Scanned.groupShape {s : State} (h : Scanned s) (hi : s.dec.i = s.dec.len) (hg : s.dec.g < s.decNG) :
    s.GroupShape := by
  obtain ⟨-, hmul, -, -, -, -, hval, hpad, -⟩ := h
  have hp := s.dec.pad.isLt
  unfold State.decNG at hg
  obtain ⟨v0, h0⟩ := hval (4 * s.dec.g) (by omega)
  obtain ⟨v1, h1⟩ := hval (4 * s.dec.g + 1) (by omega)
  refine ⟨v0, v1, h0, h1, ?_⟩
  unfold State.decGroupPad State.decNG
  by_cases hlast : s.dec.g + 1 = s.dec.len / 4
  · rw [if_pos hlast]
    have hcases : s.dec.pad.val = 0 ∨ s.dec.pad.val = 1 ∨ s.dec.pad.val = 2 := by omega
    rcases hcases with hz | hz | hz
    · exact .inl ⟨hz, (hval (4 * s.dec.g + 2) (by omega)).imp fun v2 h2 =>
        (hval (4 * s.dec.g + 3) (by omega)).imp fun v3 h3 => ⟨h2, h3⟩⟩
    · exact .inr (.inl ⟨hz, (hval (4 * s.dec.g + 2) (by omega)).imp fun v2 h2 =>
        ⟨h2, hpad _ (by omega) (by omega)⟩⟩)
    · exact .inr (.inr ⟨hz, hpad _ (by omega) (by omega), hpad _ (by omega) (by omega)⟩)
  · rw [if_neg hlast]
    exact .inl ⟨rfl, (hval (4 * s.dec.g + 2) (by omega)).imp fun v2 h2 =>
      (hval (4 * s.dec.g + 3) (by omega)).imp fun v3 h3 => ⟨h2, h3⟩⟩

/-- Three bytes less the `=` of the group (R107, R176). -/
theorem State.GroupShape.length_decGroupBytes {s : State} (h : s.GroupShape) :
    s.decGroupBytes.length = 3 - s.decGroupPad := by
  unfold State.decGroupBytes
  obtain ⟨v0, v1, h0, h1, ⟨hp, v2, v3, h2, h3⟩ | ⟨hp, v2, h2, h3⟩ | ⟨hp, h2, h3⟩⟩ := h
  · rw [hp, groupBytes_full h0 h1 h2 h3]
    rfl
  · rw [hp, groupBytes_one_pad h0 h1 h2 h3]
    rfl
  · rw [hp, groupBytes_two_pads h0 h1 h2 h3]
    rfl

theorem selectOf_repackVector_full (v2 v3 : Idx) :
    selectOf repackSelectTable (repackVector (.val v2) (.val v3)) = some .g3 := by
  change selectOf repackSelectTable (BitVec.ofBool false ++ BitVec.ofBool false ++ BitVec.ofBool false) = _
  rfl

theorem selectOf_repackVector_one_pad (v2 : Idx) :
    selectOf repackSelectTable (repackVector (.val v2) .pad) = some .g2 := by
  change selectOf repackSelectTable (BitVec.ofBool false ++ BitVec.ofBool false ++ BitVec.ofBool true) = _
  rfl

theorem selectOf_repackVector_two_pads : selectOf repackSelectTable (repackVector .pad .pad) = some .g1 := rfl

/-- While groups are left the shape of the next one selects the micro-operation for it (R85, R172 to R174). -/
theorem execDecWord_repackVector {s t : State} (hst : s.dec.st = .repack) (hg : s.dec.g < s.decNG) (hshape : s.GroupShape) :
    execDecWord (.repackSel (repackVector (s.decCls (4 * s.dec.g + 2)) (s.decCls (4 * s.dec.g + 3)))) s = .next t ↔
      (s.holdsGroup = true ∧ s.HoldsFrom .decOut (3 * s.dec.g) s.decGroupBytes.length) ∧ s.decRepacked = t := by
  have hrep : s.decRepacking = true := by simp [State.decRepacking, hst, hg]
  obtain ⟨v0, v1, h0, h1, ⟨-, v2, v3, h2, h3⟩ | ⟨-, v2, h2, h3⟩ | ⟨-, h2, h3⟩⟩ := hshape
  · have hbytes : s.decGroupBytes = [byte0 v0 v1, byte1 v1 v2, byte2 v2 v3] := groupBytes_full h0 h1 h2 h3
    simp [execDecWord, h2, h3, selectOf_repackVector_full, execRepackOp, execDecRepackG3, hrep, readGroup_eq_next, h0, h1,
      memWrite_eq_next, nextGroup, State.decRepacked, hbytes, and_assoc]
  · have hbytes : s.decGroupBytes = [byte0 v0 v1, byte1 v1 v2] := groupBytes_one_pad h0 h1 h2 h3
    simp [execDecWord, h2, h3, selectOf_repackVector_one_pad, execRepackOp, execDecRepackG2, hrep, readGroup_eq_next, h0,
      h1, memWrite_eq_next, nextGroup, State.decRepacked, hbytes, and_assoc]
  · have hbytes : s.decGroupBytes = [byte0 v0 v1] := groupBytes_two_pads h0 h1 h2 h3
    simp [execDecWord, h2, h3, selectOf_repackVector_two_pads, execRepackOp, execDecRepackG1, hrep, readGroup_eq_next, h0,
      h1, memWrite_eq_next, nextGroup, State.decRepacked, hbytes, and_assoc]

theorem execDecFinish_of_eq {s : State} (hst : s.dec.st = .repack) (hg : s.dec.g = s.decNG) :
    execDecFinish s = .next (s.setDec s.dec.finished) := by
  simp only [execDecFinish, hst, hg, beq_self_eq_true, Bool.and_self, if_true]
  rfl

/-! ## All that a step can do -/

theorem DecInv.of_check {s : State} (h : DecInv s) (hst : s.dec.st = .check) : s.dec = DecRegs.started s.dec.len := by
  obtain ⟨-, -, -, hm⟩ := h
  simpa only [hst] using hm

theorem DecInv.of_scan {s : State} (h : DecInv s) (hst : s.dec.st = .scan) : Scanned s ∧ s.dec.g = 0 := by
  obtain ⟨-, -, -, hm⟩ := h
  simpa only [hst] using hm

theorem DecInv.of_repack {s : State} (h : DecInv s) (hst : s.dec.st = .repack) :
    Scanned s ∧ s.dec.i = s.dec.len ∧ s.dec.tailbad = false := by
  obtain ⟨-, -, -, hm⟩ := h
  simpa only [hst] using hm

/-- While groups are left the next one has one of the three shapes (R177). -/
theorem DecInv.groupShape {s : State} (h : DecInv s) (hst : s.dec.st = .repack) (hg : s.dec.g < s.decNG) :
    s.GroupShape := by
  obtain ⟨hscan, hi, -⟩ := h.of_repack hst
  exact hscan.groupShape hi hg

/-- Where the next character exists, the decoder's state in `SCAN` presents its class (R85). -/
theorem decWord_of_scan {s : State} (hst : s.dec.st = .scan) (hi : s.dec.i < s.dec.len) :
    decWord s = if s.holds .decIn s.dec.i then .ok (some (.scanSel (scanVector (s.decCls s.dec.i))))
      else .error (.beyondCapacity .decIn) := by
  simp [decWord, hst, Nat.ne_of_lt hi]

/-- Where the next group exists, the decoder's state in `REPACK` presents its last two classes (R85). -/
theorem decWord_of_repack {s : State} (hst : s.dec.st = .repack) (hg : s.dec.g < s.decNG) :
    decWord s = if s.holdsGroup then
        .ok (some (.repackSel (repackVector (s.decCls (4 * s.dec.g + 2)) (s.decCls (4 * s.dec.g + 3)))))
      else .error (.beyondCapacity .decIn) := by
  simp [decWord, hst, Nat.ne_of_lt hg]

/-- While characters are left the step is the scan of the next one. -/
theorem decStep_eq_next_of_scan {s t : State} (hscan : Scanned s) (hst : s.dec.st = .scan) (hi : s.dec.i < s.dec.len) :
    decStep s = .next t ↔ s.unsupported .dec = false ∧ s.holds .decIn s.dec.i = true ∧
      s.setDec (s.dec.scanned (s.decCls s.dec.i)) = t := by
  have hb := decBusy_iff.2 (.inr (.inl hst))
  have hword := decWord_of_scan hst hi
  cases hh : s.holds .decIn s.dec.i with
  | false =>
    simp only [hh, Bool.false_eq_true, if_false] at hword
    simp [decStep_ne_next_of_word_error hb hword]
  | true =>
    simp only [hh, if_true] at hword
    rw [decStep_eq_next_of_word hb hword, execDecWord_scanVector hscan hst hi, hh]

/-- While groups are left the step is the repack of the next one. -/
theorem decStep_eq_next_of_repack {s t : State} (hst : s.dec.st = .repack) (hg : s.dec.g < s.decNG) (hshape : s.GroupShape) :
    decStep s = .next t ↔ s.unsupported .dec = false ∧
      (s.holdsGroup = true ∧ s.HoldsFrom .decOut (3 * s.dec.g) s.decGroupBytes.length) ∧ s.decRepacked = t := by
  have hb := decBusy_iff.2 (.inr (.inr hst))
  have hword := decWord_of_repack hst hg
  cases hh : s.holdsGroup with
  | false =>
    simp only [hh, Bool.false_eq_true, if_false] at hword
    simp [decStep_ne_next_of_word_error hb hword]
  | true =>
    simp only [hh, if_true] at hword
    rw [decStep_eq_next_of_word hb hword, execDecWord_repackVector hst hg hshape, hh]

/-- Under its invariant a busy decoder steps to `decNext`, exactly where its placement is supported and every entry that the
step uses exists. -/
theorem decStep_eq_next {s t : State} (hinv : DecInv s) (hb : decBusy s = true) :
    decStep s = .next t ↔ s.unsupported .dec = false ∧ s.DecHeld ∧ s.decNext = t := by
  have ⟨_, hile, hgle, _⟩ := hinv
  cases hst : s.dec.st with
  | idle => simp [decBusy, hst] at hb
  | done => simp [decBusy, hst] at hb
  | check =>
    have hword : decWord s = .ok (some .decCheck) := by simp [decWord, hst]
    simp [decStep_eq_next_of_word hb hword, execDecWord, execDecCheck_of_check hst, State.DecHeld, State.decNext, hst]
  | scan =>
    by_cases hi : s.dec.i = s.dec.len
    · have hword : decWord s = .ok (some (.scanSel 0b100)) := by simp [decWord, hst, hi]
      have hexec : execDecWord (.scanSel 0b100) s = .next (s.setDec s.dec.judged) := execDecScanEnd_of_eq hst hi
      rw [decStep_eq_next_of_word hb hword, hexec]
      simp [State.DecHeld, State.decNext, hst, hi]
    · have hlt := Nat.lt_of_le_of_ne hile hi
      simp [decStep_eq_next_of_scan (hinv.of_scan hst).1 hst hlt, State.DecHeld, State.decNext, hst, hi, hlt]
  | repack =>
    by_cases hg : s.dec.g = s.decNG
    · have hword : decWord s = .ok (some (.repackSel 0b100)) := by simp [decWord, hst, hg]
      have hexec : execDecWord (.repackSel 0b100) s = .next (s.setDec s.dec.finished) := execDecFinish_of_eq hst hg
      rw [decStep_eq_next_of_word hb hword, hexec]
      simp [State.DecHeld, State.decNext, hst, hg]
    · have hlt := Nat.lt_of_le_of_ne hgle hg
      simp [decStep_eq_next_of_repack hst hlt (hinv.groupShape hst hlt), State.DecHeld, State.decNext, hst, hg, hlt]

/-! ## What the decoder's step leaves unchanged -/

/-- What no register write and no byte written changes, a step of the decoder does not change. -/
theorem State.decNext_induction {P : State → Prop} {s : State} (hreg : ∀ t r, P t → P (t.setDec r))
    (hset : ∀ t k v, P t → P (t.setByte .decOut k v)) (h : P s) : P s.decNext := by
  unfold State.decNext
  cases s.dec.st with
  | idle => exact h
  | done => exact h
  | check => exact hreg _ _ h
  | scan => dsimp only; split <;> exact hreg _ _ h
  | repack =>
    dsimp only
    split
    · exact hreg _ _ h
    · exact hreg _ _ (State.writeBytes_induction hset _ _ h)

@[simp] theorem State.decNext_enc (s : State) : s.decNext.enc = s.enc :=
  decNext_induction (P := fun t => t.enc = s.enc) (by simp) (by simp) rfl

@[simp] theorem State.decNext_lenW (s : State) : s.decNext.lenW = s.lenW :=
  decNext_induction (P := fun t => t.lenW = s.lenW) (by simp) (by simp) rfl

@[simp] theorem State.decNext_bufMap (s : State) : s.decNext.bufMap = s.bufMap :=
  decNext_induction (P := fun t => t.bufMap = s.bufMap) (by simp) (by simp) rfl

@[simp] theorem State.decNext_agenda (s : State) : s.decNext.agenda = s.agenda :=
  decNext_induction (P := fun t => t.agenda = s.agenda) (by simp) (by simp) rfl

@[simp] theorem State.decNext_holds (s : State) (sp : Space) (k : Nat) : s.decNext.holds sp k = s.holds sp k :=
  decNext_induction (P := fun t => t.holds sp k = s.holds sp k) (by simp) (by simp) rfl

@[simp] theorem State.decNext_dec_len (s : State) : s.decNext.dec.len = s.dec.len := by
  unfold State.decNext
  cases s.dec.st with
  | idle => rfl
  | done => rfl
  | check => exact s.dec.validates_checked.len
  | scan =>
    dsimp only
    split
    · exact s.dec.validates_judged.len
    · exact (s.dec.validates_scanned _).len
  | repack =>
    dsimp only
    split
    · rfl
    · simp

end Sys2Proof.Machine
end

section
/-! PROOFS. The steps of a unit keep the invariant of the machine: the scan extends what R150 says of the characters, the
repack and the encoder's writes leave it alone, and no step makes a supported placement unsupported. -/

namespace Sys2Proof.Machine

/-! ## The encoder -/

theorem EncInv.of_run {s : State} (h : EncInv s) (hrun : s.enc.st = .run) : s.enc.o ≤ s.encM ∧ s.enc.outLen = 0 := by
  obtain ⟨-, hm⟩ := h
  simpa only [hrun] using hm

/-- The encoder's invariant is about its registers and `LEN_W` alone. -/
theorem EncInv.congr {s t : State} (h : EncInv s) (henc : t.enc = s.enc) (hw : t.lenW = s.lenW) : EncInv t := by
  simpa only [EncInv, State.encM, henc, hw] using h

theorem EncInv.encNext {s : State} (h : EncInv s) (hrun : s.enc.st = .run) : EncInv s.encNext := by
  obtain ⟨ho, hout⟩ := h.of_run hrun
  refine ⟨by simpa using h.1, ?_⟩
  rcases Nat.lt_or_eq_of_le ho with hlt | heq
  · simpa [State.encNext_enc_of_lt hlt, hrun, hout] using hlt
  · simp [State.encNext_enc_of_eq heq, heq]

/-! ## What the scan has established -/

/-- `Scanned` is about the classes of the characters and the registers of the scan, not about `DEC.st` and `DEC.g`. -/
theorem Scanned.congr {s t : State} (h : Scanned s) (hreg : { t.dec with st := s.dec.st, g := s.dec.g } = s.dec)
    (hcls : ∀ k, t.decCls k = s.decCls k) : Scanned t := by
  unfold Scanned at h ⊢
  rw [← hreg] at h
  simpa only [hcls] using h

/-- Nothing is scanned yet (R102, R141). -/
theorem Scanned.of_started {s : State} {n : Nat} (hreg : s.dec = { DecRegs.started n with st := .scan }) (hpos : 0 < n)
    (hmul : n % 4 = 0) : Scanned s := by
  simp only [Scanned, hreg, DecRegs.started]
  simp [hpos, hmul]

/-- A symbol before any `=` extends what is scanned (R144). -/
theorem Scanned.accept_val {s : State} {v : Idx} (h : Scanned s) (hi : s.dec.i < s.dec.len) (hpad : s.dec.pad = 0)
    (hc : s.decCls s.dec.i = .val v) : Scanned (s.setDec { s.dec with prev := v, i := s.dec.i + 1 }) := by
  obtain ⟨hpos, hmul, -, herr, hout, -, hval, -, -, -, htail⟩ := h
  simp only [hpad, Fin.val_zero, Nat.add_zero] at hval
  refine ⟨hpos, hmul, hi, herr, hout, ?_⟩
  simp only [State.setDec_dec, State.setDec_decCls, hpad, Fin.val_zero, Nat.add_zero]
  refine ⟨Nat.zero_le _, fun k hk => ?_, fun k h1 h2 => absurd h1 (Nat.not_le.2 h2), by simp, fun _ => hc, ?_⟩
  · rcases Nat.lt_or_eq_of_le (Nat.le_of_lt_succ hk) with hlt | rfl
    · exact hval k hlt
    · exact ⟨v, hc⟩
  · simpa [hpad] using htail

/-- A `=` in the last two positions extends what is scanned (R145). -/
theorem Scanned.accept_pad {s : State} (h : Scanned s) (hi : s.dec.i < s.dec.len) (hlast : s.dec.len ≤ s.dec.i + 2)
    (hc : s.decCls s.dec.i = .pad) :
    Scanned (s.setDec { s.dec with tailbad := tailbadAfterPad s.dec, pad := s.dec.pad + 1, i := s.dec.i + 1 }) := by
  have hadd : (s.dec.pad + 1).val = s.dec.pad.val + 1 := Fin.val_add_one_of_lt' (by have := h.pad_lt_two hi; omega)
  obtain ⟨hpos, hmul, -, herr, hout, hple, hval, hpads, hend, hprev, htail⟩ := h
  refine ⟨hpos, hmul, hi, herr, hout, ?_⟩
  simp only [State.setDec_dec, State.setDec_decCls, hadd, Nat.add_sub_add_right]
  refine ⟨by omega, fun k hk => hval k (by omega), fun k h1 h2 => ?_, fun _ => ?_, fun hk => hprev (by omega), ?_⟩
  · rcases Nat.lt_or_eq_of_le (Nat.le_of_lt_succ h2) with hlt | rfl
    · exact hpads k (by omega) hlt
    · exact hc
  · rcases Nat.eq_zero_or_pos s.dec.pad.val with hz | hp
    · omega
    · have := hend hp
      omega
  · by_cases hz : s.dec.pad = 0
    · simp [tailbadAfterPad, hz]
    · have hp : 0 < s.dec.pad.val := Nat.pos_of_ne_zero fun h0 => hz (Fin.ext h0)
      simpa [tailbadAfterPad, hz, hp] using htail

/-! ## The decoder -/

/-- The decoder's invariant is about its registers, `LEN_W` and, while it is busy, the classes of its characters. -/
theorem DecInv.congr {s t : State} (h : DecInv s) (hdec : t.dec = s.dec) (hw : t.lenW = s.lenW)
    (hcls : decBusy s = true → ∀ k, t.decCls k = s.decCls k) : DecInv t := by
  have hscanned : decBusy s = true → Scanned s → Scanned t := fun hb hs => hs.congr (by rw [hdec]) (hcls hb)
  obtain ⟨hlen, hi, hg, hm⟩ := h
  simp only [DecInv, State.decNG, hdec, hw]
  refine ⟨hlen, hi, hg, ?_⟩
  cases hst : s.dec.st with
  | idle => simpa only [hst] using hm
  | done => simpa only [hst] using hm
  | check => simpa only [hst] using hm
  | scan =>
    simp only [hst] at hm
    exact ⟨hscanned (decBusy_iff.2 (.inr (.inl hst))) hm.1, hm.2⟩
  | repack =>
    simp only [hst] at hm
    exact ⟨hscanned (decBusy_iff.2 (.inr (.inr hst))) hm.1, hm.2⟩

/-- An error leaves no result (R196). -/
theorem DecInv.raised {s : State} (h : DecInv s) (k : ErrKind) : DecInv (s.setDec (s.dec.raised k)) := by
  obtain ⟨hlen, hi, hg, -⟩ := h
  exact ⟨hlen, hi, hg, rfl⟩

theorem DecInv.checked {s : State} (h : DecInv s) (hst : s.dec.st = .check) : DecInv (s.setDec s.dec.checked) := by
  have hreg := h.of_check hst
  have ⟨hlen, hi, hg, _⟩ := h
  unfold DecRegs.checked
  split
  · next hz =>
    refine ⟨hlen, hi, hg, ?_⟩
    simp only [State.setDec_dec, hz]
    rw [hreg]
    simp [DecRegs.started, decResultLen]
  · next hpos =>
    split
    · exact h.raised _
    · next hmul =>
      have hscan : Scanned (s.setDec { s.dec with st := .scan }) :=
        Scanned.of_started (n := s.dec.len) (by rw [hreg]; rfl) (by omega) (by omega)
      exact ⟨hlen, hi, hg, hscan, by simp only [State.setDec_dec]; rw [hreg]; rfl⟩

theorem DecInv.scanned {s : State} (h : DecInv s) (hst : s.dec.st = .scan) (hi : s.dec.i < s.dec.len) :
    DecInv (s.setDec (s.dec.scanned (s.decCls s.dec.i))) := by
  obtain ⟨hscan, hg0⟩ := h.of_scan hst
  have ⟨hlen, _, hg, _⟩ := h
  cases hc : s.decCls s.dec.i with
  | val v =>
    simp only [DecRegs.scanned]
    split
    · exact h.raised _
    · next hpad =>
      refine ⟨hlen, hi, hg, ?_⟩
      simp only [State.setDec_dec, hst]
      exact ⟨hscan.accept_val hi (by simpa using hpad) hc, hg0⟩
  | pad =>
    simp only [DecRegs.scanned]
    split
    · exact h.raised _
    · next hlast =>
      refine ⟨hlen, hi, hg, ?_⟩
      simp only [State.setDec_dec, hst]
      exact ⟨hscan.accept_pad hi (by omega) hc, hg0⟩
  | inv => exact h.raised _

theorem DecInv.judged {s : State} (h : DecInv s) (hst : s.dec.st = .scan) (hi : s.dec.i = s.dec.len) :
    DecInv (s.setDec s.dec.judged) := by
  obtain ⟨hscan, -⟩ := h.of_scan hst
  unfold DecRegs.judged
  split
  · exact h.raised _
  · next htail =>
    obtain ⟨hlen, hile, hg, -⟩ := h
    exact ⟨hlen, hile, hg, hscan.congr rfl (by simp), hi, by simpa using htail⟩

theorem DecInv.finished {s : State} (h : DecInv s) (hst : s.dec.st = .repack) : DecInv (s.setDec s.dec.finished) := by
  obtain ⟨⟨-, -, -, herr, -⟩, -⟩ := h.of_repack hst
  obtain ⟨hlen, hi, hg, -⟩ := h
  refine ⟨hlen, hi, hg, ?_⟩
  simp [DecRegs.finished, herr]

theorem DecInv.repacked {s : State} (h : DecInv s) (hst : s.dec.st = .repack) (hg : s.dec.g < s.decNG)
    (hov : s.overlap .decIn .decOut = false) : DecInv s.decRepacked := by
  obtain ⟨hscan, hi, htail⟩ := h.of_repack hst
  obtain ⟨hlen, hile, -, -⟩ := h
  have hscan' : Scanned s.decRepacked :=
    hscan.congr (by simp) fun k => congrArg cls (State.decRepacked_byteAt_decIn hov k)
  refine ⟨by simpa [State.decRepacked] using hlen, by simpa using hile, by simpa [State.decNG] using hg, ?_⟩
  simpa [hst, hi, htail] using hscan'

/-- A step of the decoder keeps its invariant. -/
theorem DecInv.decNext {s : State} (h : DecInv s) (hov : s.overlap .decIn .decOut = false) : DecInv s.decNext := by
  have ⟨_, hile, hgle, _⟩ := h
  unfold State.decNext
  cases hst : s.dec.st with
  | idle => exact h
  | done => exact h
  | check => exact h.checked hst
  | scan =>
    dsimp only
    split
    · next hi => exact h.judged hst hi
    · next hi => exact h.scanned hst (Nat.lt_of_le_of_ne hile hi)
  | repack =>
    dsimp only
    split
    · exact h.finished hst
    · next hg => exact h.repacked hst (Nat.lt_of_le_of_ne hgle hg) hov

/-! ## The machine -/

/-- A placement stays supported while no unit becomes busy (R231). -/
theorem PlacementSupported.of_busy {s t : State} (h : PlacementSupported s) (hmap : t.bufMap = s.bufMap)
    (hb : ∀ u, busy u t = true → busy u s = true) : PlacementSupported t := by
  intro u hu
  have hs := h u (hb u hu)
  simp only [State.unsupported, State.unitsOverlap, State.overlap_congr hmap, Bool.or_eq_false_iff] at hs ⊢
  refine ⟨hs.1, ?_⟩
  cases ho : busy (otherUnit u) t with
  | false => rfl
  | true => simpa [hb _ ho] using hs.2

/-- A step of the encoder makes no unit busy. -/
theorem busy_of_busy_encNext {s : State} (hb : encBusy s = true) (u : UnitId) (h : busy u s.encNext = true) :
    busy u s = true := by
  cases u with
  | enc => exact hb
  | dec => simpa [busy, decBusy] using h

/-- A step of the decoder makes no unit busy. -/
theorem busy_of_busy_decNext {s : State} (hb : decBusy s = true) (u : UnitId) (h : busy u s.decNext = true) :
    busy u s = true := by
  cases u with
  | enc => simpa [busy, encBusy] using h
  | dec => exact hb

theorem MemoriesWf.encNext {s : State} (h : MemoriesWf s) (ho : s.enc.o ≤ s.encM) (hheld : s.EncHeld) :
    MemoriesWf s.encNext := by
  unfold State.encNext
  split
  · exact h
  · next hne => exact h.setByte (hheld (Nat.lt_of_le_of_ne ho hne)).2 _

theorem MemoriesWf.decNext {s : State} (h : MemoriesWf s) (hg : s.dec.g ≤ s.decNG) (hheld : s.DecHeld) :
    MemoriesWf s.decNext := by
  unfold State.decNext
  cases hst : s.dec.st with
  | idle => exact h
  | done => exact h
  | check => exact h
  | scan => dsimp only; split <;> exact h
  | repack =>
    dsimp only
    split
    · exact h
    · next hne => exact h.writeBytes (hheld.2 hst (Nat.lt_of_le_of_ne hg hne)).2

/-- A step of the encoder keeps the invariant of the machine. -/
theorem Inv.encNext {s : State} (h : Inv s) (hrun : s.enc.st = .run) (hheld : s.EncHeld) : Inv s.encNext := by
  obtain ⟨hwf, henc, hdec, hplaced⟩ := h
  have hb := encBusy_iff.2 hrun
  have hunits : decBusy s = true → s.overlap .encOut .decIn = false := fun hd =>
    State.overlap_encOut_decIn_of_unitsOverlap ((State.unsupported_enc_eq_false.1 (hplaced .enc hb)).2 hd)
  refine ⟨hwf.encNext (henc.of_run hrun).1 hheld, henc.encNext hrun, hdec.congr (by simp) (by simp) ?_,
    hplaced.of_busy (by simp) (busy_of_busy_encNext hb)⟩
  exact fun hd k => congrArg cls (State.encNext_byteAt_of_overlap (by decide) (hunits hd) k)

/-- A step of the decoder keeps the invariant of the machine. -/
theorem Inv.decNext {s : State} (h : Inv s) (hb : decBusy s = true) (hheld : s.DecHeld) : Inv s.decNext := by
  obtain ⟨hwf, henc, hdec, hplaced⟩ := h
  have hov := (State.unsupported_dec_eq_false.1 (hplaced .dec hb)).1
  have ⟨_, _, hg, _⟩ := hdec
  exact ⟨hwf.decNext hg hheld, henc.congr (by simp) (by simp), hdec.decNext hov,
    hplaced.of_busy (by simp) (busy_of_busy_decNext hb)⟩

end Sys2Proof.Machine
end

section
/-! PROOFS. The machine's step in terms of what is fetched: a word decoded and executed, an access, or a step of a unit
(log 5, log 6). -/

namespace Sys2Proof.Machine

/-! ## What is fetched decides the step -/

theorem step_of_fetch_other {s : State} {o : Out} (h : fetch s = .other o) : step s = o := by
  simp only [step, h]

theorem step_of_fetch_word {s t : State} {p : PortWord} {i : Instr} (h : fetch s = .word p t)
    (hd : decode t.lenW p = .ok i) : step s = exec i t := by
  simp only [step, h, hd]

theorem step_of_fetch_rejected {s t : State} {p : PortWord} {e : Reject} (h : fetch s = .word p t)
    (hd : decode t.lenW p = .error e) : step s = rejected e t := by
  simp only [step, h, hd]

theorem fetch_of_agenda {s : State} {inp : Input} {rest : List Input} (h : s.agenda = inp :: rest) :
    fetch s = present inp { s with agenda := rest } := by
  simp only [fetch, h]

theorem fetch_of_no_agenda {s : State} (h : s.agenda = []) : fetch s = freeRun s := by
  simp only [fetch, h]

theorem unitEdge_of_word {u : UnitId} {s : State} {p : PortWord} (h : unitWord u s = .ok (some p)) :
    unitEdge u s = .word p s := by
  simp only [unitEdge, h]

theorem unitEdge_of_no_word {u : UnitId} {s : State} (h : unitWord u s = .ok none) : unitEdge u s = .other (.next s) := by
  simp only [unitEdge, h]

theorem unitEdge_of_error {u : UnitId} {s : State} {r : Refusal} (h : unitWord u s = .error r) :
    unitEdge u s = .other (.refused r) := by
  simp only [unitEdge, h]

/-! ## Select vectors -/

theorem exec_encOp (op : EncOp) (s : State) : exec op.instr s = execEncOp op s := by cases op <;> rfl
theorem exec_scanOp (op : ScanOp) (s : State) : exec op.instr s = execScanOp op s := by cases op <;> rfl
theorem exec_repackOp (op : RepackOp) (s : State) : exec op.instr s = execRepackOp op s := by cases op <;> rfl
theorem exec_decCheck (s : State) : exec .decCheck s = execDecCheck s := by rfl

theorem decode_encSel_of_some {lenW : Option Nat} {v : BitVec 4} {op : EncOp} (h : selectOf encSelectTable v = some op) :
    decode lenW (.encSel v) = .ok op.instr := by
  simp only [decode, h, Option.map_some, Option.getD_some, Function.comp]

theorem decode_encSel_of_none {lenW : Option Nat} {v : BitVec 4} (h : selectOf encSelectTable v = none) :
    decode lenW (.encSel v) = .error .noSuchPattern := by
  simp only [decode, h, Option.map_none, Option.getD_none]

theorem decode_scanSel_of_some {lenW : Option Nat} {v : BitVec 3} {op : ScanOp} (h : selectOf scanSelectTable v = some op) :
    decode lenW (.scanSel v) = .ok op.instr := by
  simp only [decode, h, Option.map_some, Option.getD_some, Function.comp]

theorem decode_scanSel_of_none {lenW : Option Nat} {v : BitVec 3} (h : selectOf scanSelectTable v = none) :
    decode lenW (.scanSel v) = .error .noSuchPattern := by
  simp only [decode, h, Option.map_none, Option.getD_none]

theorem decode_repackSel_of_some {lenW : Option Nat} {v : BitVec 3} {op : RepackOp}
    (h : selectOf repackSelectTable v = some op) : decode lenW (.repackSel v) = .ok op.instr := by
  simp only [decode, h, Option.map_some, Option.getD_some, Function.comp]

theorem decode_repackSel_of_none {lenW : Option Nat} {v : BitVec 3} (h : selectOf repackSelectTable v = none) :
    decode lenW (.repackSel v) = .error .noSuchPattern := by
  simp only [decode, h, Option.map_none, Option.getD_none]

/-! ## A fetched clock edge is a step of the unit -/

/-- The machine's step at a clock edge of a running encoder is the encoder's own step. -/
theorem step_of_fetch_encEdge {s t : State} (hf : fetch s = unitEdge .enc t) (hrun : t.enc.st = .run) :
    step s = encStep t := by
  have hb : busy .enc t = true := encBusy_iff.2 hrun
  cases hu : t.unsupported .enc with
  | true =>
    have hword : unitWord .enc t = .error (.overlappingBuffers .enc) := by simp [unitWord, hb, hu]
    rw [step_of_fetch_other (hf.trans (unitEdge_of_error hword))]
    simp [encStep, hu]
  | false =>
    have hword : unitWord .enc t = .ok (some (.encSel t.encSelect)) := by simp [unitWord, hu, encWord, hrun]
    have hfetch := hf.trans (unitEdge_of_word hword)
    cases hsel : selectOf encSelectTable t.encSelect with
    | some op =>
      rw [step_of_fetch_word hfetch (decode_encSel_of_some hsel), exec_encOp, encStep_of_select hu hsel]
    | none =>
      rw [step_of_fetch_rejected hfetch (decode_encSel_of_none hsel)]
      simp [encStep, hu, hsel, rejected]

/-- The words that the decoder's state can present (R85). -/
theorem decWord_eq_some {s : State} {p : PortWord} (h : decWord s = .ok (some p)) :
    p = .decCheck ∨ (∃ v, p = .scanSel v) ∨ ∃ v, p = .repackSel v := by
  unfold decWord at h
  cases hst : s.dec.st with
  | idle => simp [hst] at h
  | done => simp [hst] at h
  | check => exact .inl (by simpa [hst] using h.symm)
  | scan =>
    simp only [hst] at h
    split at h
    · exact .inr (.inl ⟨_, by simpa using h.symm⟩)
    · split at h
      · exact .inr (.inl ⟨_, by simpa using h.symm⟩)
      · cases h
  | repack =>
    simp only [hst] at h
    split at h
    · exact .inr (.inr ⟨_, by simpa using h.symm⟩)
    · split at h
      · exact .inr (.inr ⟨_, by simpa using h.symm⟩)
      · cases h

/-- A word of the decoder is executed as the decoder's own step executes it. -/
theorem step_of_fetch_decWord {s t : State} {p : PortWord} (hf : fetch s = .word p t)
    (hp : p = .decCheck ∨ (∃ v, p = .scanSel v) ∨ ∃ v, p = .repackSel v) : step s = execDecWord p t := by
  rcases hp with rfl | ⟨v, rfl⟩ | ⟨v, rfl⟩
  · exact (step_of_fetch_word hf rfl).trans (exec_decCheck t)
  · cases hsel : selectOf scanSelectTable v with
    | some op => simp only [step_of_fetch_word hf (decode_scanSel_of_some hsel), exec_scanOp, execDecWord, hsel]
    | none => simp only [step_of_fetch_rejected hf (decode_scanSel_of_none hsel), rejected, execDecWord, hsel]
  · cases hsel : selectOf repackSelectTable v with
    | some op => simp only [step_of_fetch_word hf (decode_repackSel_of_some hsel), exec_repackOp, execDecWord, hsel]
    | none => simp only [step_of_fetch_rejected hf (decode_repackSel_of_none hsel), rejected, execDecWord, hsel]

/-- The machine's step at a clock edge of the decoder is the decoder's own step. -/
theorem step_of_fetch_decEdge {s t : State} (hf : fetch s = unitEdge .dec t) : step s = decStep t := by
  cases hword : unitWord .dec t with
  | error r =>
    rw [step_of_fetch_other (hf.trans (unitEdge_of_error hword))]
    simp [decStep, hword]
  | ok w =>
    cases w with
    | none =>
      rw [step_of_fetch_other (hf.trans (unitEdge_of_no_word hword))]
      simp [decStep, hword]
    | some p =>
      have hp : decWord t = .ok (some p) := by
        unfold unitWord at hword
        split at hword
        · cases hword
        · exact hword
      rw [step_of_fetch_decWord (hf.trans (unitEdge_of_word hword)) (decWord_eq_some hp)]
      simp [decStep, hword]

/-! ## The free run -/

theorem freeRun_of_enc {s : State} (he : encBusy s = true) (hd : decBusy s = false) : freeRun s = unitEdge .enc s := by
  simp [freeRun, he, hd]

theorem freeRun_of_not_enc {s : State} (he : encBusy s = false) : freeRun s = unitEdge .dec s := by
  simp [freeRun, he]

/-- With both units busy the free value says which one steps (R62, log 6). -/
theorem freeRun_of_both {s : State} (he : encBusy s = true) (hd : decBusy s = true) :
    freeRun s = unitEdge (if Config.encoderFirst s.fresh then .enc else .dec) s.draw := by
  simp [freeRun, he, hd]

end Sys2Proof.Machine
end

section
/-! PROOFS. With no input to come both units come to rest (O60; 10_state.md R24, 70_reset_and_hazards.md R234): the steps that
the two running operations have left grow fewer with every step of the machine, whichever unit takes it. -/

namespace Sys2Proof.Machine

/-! ## The steps left -/

/-- The steps that the encoder's running operation has left (R235). -/
def State.encStepsLeft (s : State) : Nat := if encBusy s then encBudget s else 0

/-- The steps that the decoder's running operation has left at most, an error ending it earlier (R235). -/
def State.decStepsLeft (s : State) : Nat :=
  match s.dec.st with
  | .idle => 0
  | .check => s.dec.len - s.dec.i + s.decNG + 3
  | .scan => s.dec.len - s.dec.i + s.decNG + 2
  | .repack => s.decNG - s.dec.g + 1
  | .done => 0

/-- The steps that both running operations have left at most. -/
def State.stepsLeft (s : State) : Nat := s.encStepsLeft + s.decStepsLeft

theorem encStepsLeft_of_run {s : State} (hrun : s.enc.st = .run) : s.encStepsLeft = s.encM - s.enc.o + 1 :=
  if_pos (encBusy_iff.2 hrun)

theorem encStepsLeft_encNext_lt {s : State} (hrun : s.enc.st = .run) (ho : s.enc.o ≤ s.encM) :
    s.encNext.encStepsLeft < s.encStepsLeft := by
  rw [encStepsLeft_of_run hrun]
  rcases Nat.lt_or_eq_of_le ho with hlt | heq
  · have henc := State.encNext_enc_of_lt hlt
    rw [encStepsLeft_of_run (by rw [henc]; exact hrun), State.encNext_encM, henc]
    dsimp only
    omega
  · simp [State.encStepsLeft, encBusy, State.encNext_enc_of_eq heq]

/-- An error ends the operation. -/
theorem decStepsLeft_raised (s : State) (k : ErrKind) : (s.setDec (s.dec.raised k)).decStepsLeft = 0 := rfl

theorem decStepsLeft_decNext_lt {s : State} (h : DecInv s) (hb : decBusy s = true) :
    s.decNext.decStepsLeft < s.decStepsLeft := by
  have ⟨_, hi, hg, _⟩ := h
  have hpos : 0 < s.decStepsLeft := by
    cases hst : s.dec.st <;> simp [decBusy, State.decStepsLeft, hst] at hb ⊢
  unfold State.decNext
  cases hst : s.dec.st with
  | idle => simp [decBusy, hst] at hb
  | done => simp [decBusy, hst] at hb
  | check =>
    simp only [DecRegs.checked]
    split
    · exact hpos
    · split
      · exact (decStepsLeft_raised s _).trans_lt hpos
      · simp only [State.decStepsLeft, State.decNG, State.setDec_dec, hst]
        omega
  | scan =>
    dsimp only
    split
    · next hend =>
      unfold DecRegs.judged
      split
      · exact (decStepsLeft_raised s _).trans_lt hpos
      · simp only [State.decStepsLeft, State.decNG, State.setDec_dec, hst]
        omega
    · next hne =>
      cases s.decCls s.dec.i with
      | val v =>
        simp only [DecRegs.scanned]
        split
        · exact (decStepsLeft_raised s _).trans_lt hpos
        · simp only [State.decStepsLeft, State.decNG, State.setDec_dec, hst]
          omega
      | pad =>
        simp only [DecRegs.scanned]
        split
        · exact (decStepsLeft_raised s _).trans_lt hpos
        · simp only [State.decStepsLeft, State.decNG, State.setDec_dec, hst]
          omega
      | inv => exact (decStepsLeft_raised s _).trans_lt hpos
  | repack =>
    dsimp only
    split
    · exact hpos
    · next hne =>
      have hlt := Nat.lt_of_le_of_ne hg hne
      unfold State.decNG at hlt
      simp only [State.decStepsLeft, State.decNG, State.decRepacked_dec, hst]
      omega

theorem stepsLeft_encNext_lt {s : State} (hrun : s.enc.st = .run) (ho : s.enc.o ≤ s.encM) :
    s.encNext.stepsLeft < s.stepsLeft := by
  have hd : s.encNext.decStepsLeft = s.decStepsLeft := by simp only [State.decStepsLeft, State.decNG, State.encNext_dec]
  have := encStepsLeft_encNext_lt hrun ho
  unfold State.stepsLeft
  omega

theorem stepsLeft_decNext_lt {s : State} (h : DecInv s) (hb : decBusy s = true) : s.decNext.stepsLeft < s.stepsLeft := by
  have he : s.decNext.encStepsLeft = s.encStepsLeft := by
    simp [State.encStepsLeft, encBusy, encBudget, State.encM]
  have := decStepsLeft_decNext_lt h hb
  unfold State.stepsLeft
  omega

/-! ## The entries that the steps use -/

/-- The platform provides what the encoder's next step uses (R34, R120). -/
theorem Provided.encHeld {s : State} (h : Provided s) (hb : encBusy s = true) : s.EncHeld := by
  intro ho
  obtain ⟨hin, hout⟩ := h.1 hb
  have hbase := State.encRem_of_lt ho
  simp only [State.encRem] at hbase
  refine ⟨⟨hin _ (by omega), fun h2 => hin _ ?_, fun h3 => hin _ ?_⟩, hout _ ho⟩
  · simp only [State.encRem] at h2
    omega
  · simp only [State.encRem] at h3
    omega

/-- The platform provides what the decoder's next step uses (R34, R142, R170). -/
theorem Provided.decHeld {s : State} (h : Provided s) (hinv : DecInv s) (hb : decBusy s = true) : s.DecHeld := by
  obtain ⟨hin, hout⟩ := h.2 hb
  refine ⟨fun _ hi => hin _ hi, fun hst hg => ?_⟩
  have hlen := (hinv.groupShape hst hg).length_decGroupBytes
  unfold State.decNG at hg
  constructor
  · simp [State.holdsGroup, hin (4 * s.dec.g) (by omega), hin (4 * s.dec.g + 1) (by omega),
      hin (4 * s.dec.g + 2) (by omega), hin (4 * s.dec.g + 3) (by omega)]
  · exact fun j hj => hout _ (by omega)

/-- What is provided stays so while no unit becomes busy and the lengths stay. -/
theorem Provided.of_busy {s t : State} (h : Provided s) (hheld : ∀ sp k, t.holds sp k = s.holds sp k)
    (hb : ∀ u, busy u t = true → busy u s = true) (he : t.enc.len = s.enc.len) (hd : t.dec.len = s.dec.len) :
    Provided t := by
  simp only [Provided, State.encM, hheld, he, hd]
  exact ⟨fun hu => h.1 (hb .enc hu), fun hu => h.2 (hb .dec hu)⟩

/-! ## Free runs -/

/-- The states of a free run: the invariant, no input to come, every entry in use provided. -/
structure FreeRunning (s : State) : Prop where
  inv : Inv s
  noInput : s.agenda = []
  provided : Provided s

theorem FreeRunning.draw {s : State} (h : FreeRunning s) : FreeRunning s.draw := ⟨h.inv, h.noInput, h.provided⟩

/-- A running encoder takes its step, and the run goes on. -/
theorem FreeRunning.encStep_eq {s : State} (h : FreeRunning s) (hb : encBusy s = true) :
    encStep s = .next s.encNext ∧ FreeRunning s.encNext ∧ s.encNext.stepsLeft < s.stepsLeft := by
  have hrun := encBusy_iff.1 hb
  have hheld := h.provided.encHeld hb
  obtain ⟨hinv, hno, hprov⟩ := h
  have ⟨_, henc, _, hplaced⟩ := hinv
  have ho := (henc.of_run hrun).1
  exact ⟨(encStep_eq_next hrun ho).2 ⟨hplaced .enc hb, hheld, rfl⟩,
    ⟨hinv.encNext hrun hheld, by simpa using hno,
      hprov.of_busy (by simp) (busy_of_busy_encNext hb) (by simp) (by simp)⟩,
    stepsLeft_encNext_lt hrun ho⟩

/-- A busy decoder takes its step, and the run goes on. -/
theorem FreeRunning.decStep_eq {s : State} (h : FreeRunning s) (hb : decBusy s = true) :
    decStep s = .next s.decNext ∧ FreeRunning s.decNext ∧ s.decNext.stepsLeft < s.stepsLeft := by
  obtain ⟨hinv, hno, hprov⟩ := h
  have ⟨_, _, hdec, hplaced⟩ := hinv
  have hheld := hprov.decHeld hdec hb
  exact ⟨(decStep_eq_next hdec hb).2 ⟨hplaced .dec hb, hheld, rfl⟩,
    ⟨hinv.decNext hb hheld, by simpa using hno,
      hprov.of_busy (by simp) (busy_of_busy_decNext hb) (by simp) (by simp)⟩,
    stepsLeft_decNext_lt hdec hb⟩

/-- At a clock edge of a busy unit the machine takes that unit's step. -/
theorem FreeRunning.step_of_edge {x : UnitId} {s u : State} (h : FreeRunning u) (hf : fetch s = unitEdge x u)
    (hb : busy x u = true) : ∃ t, step s = .next t ∧ FreeRunning t ∧ t.stepsLeft < u.stepsLeft := by
  cases x with
  | enc =>
    obtain ⟨hstep, hrest⟩ := h.encStep_eq hb
    exact ⟨_, (step_of_fetch_encEdge hf (encBusy_iff.1 hb)).trans hstep, hrest⟩
  | dec =>
    obtain ⟨hstep, hrest⟩ := h.decStep_eq hb
    exact ⟨_, (step_of_fetch_decEdge hf).trans hstep, hrest⟩

/-- While a unit is busy the machine takes a step, whichever unit is chosen, and fewer are left. -/
theorem FreeRunning.exists_step {s : State} (h : FreeRunning s) (hb : encBusy s = true ∨ decBusy s = true) :
    ∃ t, step s = .next t ∧ FreeRunning t ∧ t.stepsLeft < s.stepsLeft := by
  have hfetch := fetch_of_no_agenda h.noInput
  cases he : encBusy s with
  | false =>
    have hd : decBusy s = true := by simpa [he] using hb
    exact h.step_of_edge (hfetch.trans (freeRun_of_not_enc he)) hd
  | true =>
    cases hd : decBusy s with
    | false => exact h.step_of_edge (hfetch.trans (freeRun_of_enc he hd)) he
    | true =>
      have hchosen : busy (if Config.encoderFirst s.fresh then .enc else .dec) s.draw = true := by
        split
        · exact he
        · exact hd
      exact h.draw.step_of_edge (hfetch.trans (freeRun_of_both he hd)) hchosen

theorem run_succ_of_step {s t : State} (h : step s = .next t) (k : Nat) :
    Host.Core.run Sys2Proof.core (k + 1) s = Host.Core.run Sys2Proof.core k t := by
  have hcore : Sys2Proof.core.step s = .next t := h
  simp only [Host.Core.run, hcore]

/-- A free run ends with both units at rest: induction on the steps left. -/
theorem FreeRunning.comesToRest {s : State} (h : FreeRunning s) :
    ∃ (k : Nat) (u : State), Host.Core.run Sys2Proof.core k s = .next u ∧ encBusy u = false ∧ decBusy u = false := by
  induction hn : s.stepsLeft using Nat.strong_induction_on generalizing s with
  | _ n ih =>
    by_cases hb : encBusy s = true ∨ decBusy s = true
    · obtain ⟨t, hstep, ht, hlt⟩ := h.exists_step hb
      obtain ⟨k, u, hrun, hrest⟩ := ih t.stepsLeft (hn ▸ hlt) ht rfl
      exact ⟨k + 1, u, (run_succ_of_step hstep k).trans hrun, hrest⟩
    · simp only [not_or, Bool.not_eq_true] at hb
      exact ⟨0, s, rfl, hb⟩

/-- Settles O60: from a state with the invariant, no input and every entry provided the free run ends. -/
theorem bothUnitsComeToRest : Obligations.BothUnitsComeToRest := by
  unfold Obligations.BothUnitsComeToRest
  exact fun s hinv hno hprov => FreeRunning.comesToRest ⟨hinv, hno, hprov⟩

/-- O60 says something of a state in which both units run. -/
theorem bothRun_comesToRest : encBusy Tests.bothRun = true ∧ decBusy Tests.bothRun = true ∧
    ∃ (k : Nat) (u : State), Host.Core.run Sys2Proof.core k Tests.bothRun = .next u ∧ busy .enc u = false ∧
      busy .dec u = false := by
  obtain ⟨hinv, hprov, he, hd, hno⟩ := Tests.witness_BothBusy
  exact ⟨he, hd, bothUnitsComeToRest _ hinv hno hprov⟩

end Sys2Proof.Machine
end

section
/-! PROOFS. The result of an operation depends on its length and its input bytes alone (O38; 10_state.md R23,
70_reset_and_hazards.md R222): two runs that start alike stay alike in the unit's registers and in the result written so
far. -/

namespace Sys2Proof.Machine

theorem State.bytes_eq_iff {s s' : State} {sp : Space} {n : Nat} :
    s.bytes sp n = s'.bytes sp n ↔ ∀ k, k < n → s.byteAt sp k = s'.byteAt sp k := by
  simp [State.bytes]

/-! ## Two runs of the encoder -/

/-- Two states that agree in all that the rest of a run of the encoder depends on, and in the characters written so far. -/
structure EncAgree (s s' : State) : Prop where
  regs : s.enc = s'.enc
  input : ∀ k, k < s.enc.len → s.byteAt .encIn k = s'.byteAt .encIn k
  output : ∀ k, k < s.enc.o → s.byteAt .encOut k = s'.byteAt .encOut k
  index_le : s.enc.o ≤ s.encM
  result_le : s.enc.outLen ≤ s.enc.o

/-- The next character depends on the encoder's registers and its input bytes alone (R120, R129). -/
theorem EncAgree.encNextChar {s s' : State} (h : EncAgree s s') (ho : s.enc.o < s.encM) :
    s.encNextChar = s'.encNextChar := by
  have hsel : s.encSel = s'.encSel := by simp only [State.encSel, h.regs]
  have hbase : s.encBase = s'.encBase := by simp only [State.encBase, h.regs]
  have hrem : s.encRem = s'.encRem := by simp only [State.encRem, h.regs, hbase]
  have hbytes : s.encGroupBytes = s'.encGroupBytes := by
    have hlo := (State.encRem_of_lt ho).1
    unfold State.encRem at hlo
    have h1 : 2 ≤ s.encRem → s.byteAt .encIn (s.encBase + 1) = s'.byteAt .encIn (s.encBase + 1) := fun h2 =>
      h.input _ (by unfold State.encRem at h2; omega)
    have h2 : s.encRem = 3 → s.byteAt .encIn (s.encBase + 2) = s'.byteAt .encIn (s.encBase + 2) := fun h3 =>
      h.input _ (by unfold State.encRem at h3; omega)
    simp only [State.encGroupBytes, ← hbase, ← hrem, h.input s.encBase (by omega)]
    congr 2
    · split
      · next hr => exact h1 hr
      · rfl
    · split
      · next hr => exact h2 hr
      · rfl
  simp only [State.encNextChar, hsel, hrem, hbytes]

theorem EncAgree.encNext {s s' : State} (h : EncAgree s s') (hov : s.overlap .encIn .encOut = false)
    (hov' : s'.overlap .encIn .encOut = false) : EncAgree s.encNext s'.encNext := by
  have hm : s.encM = s'.encM := by simp only [State.encM, h.regs]
  have hin : ∀ k, s.encNext.byteAt .encIn k = s.byteAt .encIn k :=
    State.encNext_byteAt_of_overlap (by decide) ((s.overlap_comm .encOut .encIn).trans hov)
  have hin' : ∀ k, s'.encNext.byteAt .encIn k = s'.byteAt .encIn k :=
    State.encNext_byteAt_of_overlap (by decide) ((s'.overlap_comm .encOut .encIn).trans hov')
  have hinput : ∀ k, k < s.encNext.enc.len → s.encNext.byteAt .encIn k = s'.encNext.byteAt .encIn k := fun k hk => by
    rw [hin, hin']
    exact h.input k (by simpa using hk)
  rcases Nat.lt_or_eq_of_le h.index_le with hlt | heq
  · have hlt' : s'.enc.o < s'.encM := by rwa [← h.regs, ← hm]
    have henc := State.encNext_enc_of_lt hlt
    refine ⟨by rw [henc, State.encNext_enc_of_lt hlt', h.regs], hinput, fun k hk => ?_, by simpa [henc] using hlt, ?_⟩
    · rw [State.encNext_byteAt_encOut hlt, State.encNext_byteAt_encOut hlt', ← h.regs, h.encNextChar hlt]
      split
      · rfl
      · next hne => exact h.output k (by simp only [henc] at hk; omega)
    · simpa [henc] using Nat.le_succ_of_le h.result_le
  · have heq' : s'.enc.o = s'.encM := by rwa [← h.regs, ← hm]
    have henc := State.encNext_enc_of_eq heq
    refine ⟨by rw [henc, State.encNext_enc_of_eq heq', h.regs], hinput, fun k hk => ?_, by simp [henc, heq],
      by simp [henc]⟩
    rw [State.encNext_byteAt_of_eq heq, State.encNext_byteAt_of_eq heq']
    exact h.output k (by simpa [henc] using hk)

theorem encRun_succ_of_busy {s : State} (hb : encBusy s = true) (k : Nat) :
    encRun (k + 1) s = andThen (encStep s) (encRun k) := by simp [encRun, hb]

theorem encRun_of_rest {s : State} (hb : encBusy s = false) (k : Nat) : encRun k s = .next s := by
  cases k <;> simp [encRun, hb]

/-- Two runs of the encoder that start alike end alike. -/
theorem EncAgree.encRun {s s' t t' : State} {k : Nat} (h : EncAgree s s') (ht : encRun k s = .next t)
    (ht' : encRun k s' = .next t') : EncAgree t t' := by
  induction k generalizing s s' with
  | zero =>
    cases ht
    cases ht'
    exact h
  | succ k ih =>
    cases hb : encBusy s with
    | false =>
      have hb' : encBusy s' = false := by rwa [encBusy, ← h.regs]
      rw [encRun_of_rest hb] at ht
      rw [encRun_of_rest hb'] at ht'
      cases ht
      cases ht'
      exact h
    | true =>
      have hb' : encBusy s' = true := by rwa [encBusy, ← h.regs]
      rw [encRun_succ_of_busy hb, andThen_eq_next] at ht
      rw [encRun_succ_of_busy hb', andThen_eq_next] at ht'
      obtain ⟨u, hu, ht⟩ := ht
      obtain ⟨u', hu', ht'⟩ := ht'
      have hrun := encBusy_iff.1 hb
      have ho' : s'.enc.o ≤ s'.encM := by simpa only [State.encM, h.regs] using h.index_le
      obtain ⟨hs, -, rfl⟩ := (encStep_eq_next hrun h.index_le).1 hu
      obtain ⟨hs', -, rfl⟩ := (encStep_eq_next (h.regs ▸ hrun) ho').1 hu'
      exact ih (h.encNext (State.unsupported_enc_eq_false.1 hs).1 (State.unsupported_enc_eq_false.1 hs').1) ht ht'

/-- The result bytes of states that agree. -/
theorem EncAgree.result_eq {s s' : State} (h : EncAgree s s') :
    s.bytes .encOut s.enc.outLen = s'.bytes .encOut s'.enc.outLen := by
  rw [← h.regs]
  exact State.bytes_eq_iff.2 fun k hk => h.output k (Nat.lt_of_lt_of_le hk h.result_le)

/-- START leaves nothing of what ran before (R101). -/
theorem encAgree_started {s s' : State} {n : Nat} (h : s.bytes .encIn n = s'.bytes .encIn n) :
    EncAgree (s.setEnc (EncRegs.started n)) (s'.setEnc (EncRegs.started n)) := by
  refine ⟨rfl, fun k hk => ?_, fun k hk => absurd hk (Nat.not_lt_zero k), Nat.zero_le _, Nat.le_refl _⟩
  simpa using State.bytes_eq_iff.1 h k hk

/-- An `ENCODE` of a unit that is not busy is the run from the registers of START (R104). -/
theorem encRun_of_execEncodeOp {s t : State} {n : Nat} (hb : encBusy s = false) (h : execEncodeOp n s = .next t) :
    encRun (encM n + 1) (s.setEnc (EncRegs.started n)) = .next t := by
  obtain ⟨u, hu, ht⟩ := andThen_eq_next.1 h
  rcases execEncStart_eq_next.1 hu with ⟨hbusy, -⟩ | ⟨-, -, -, rfl⟩
  · exact absurd (hb.symm.trans hbusy) (by decide)
  · exact ht

theorem encodeOp_result_congr {s s' t t' : State} {n : Nat} (hb : encBusy s = false) (hb' : encBusy s' = false)
    (hin : s.bytes .encIn n = s'.bytes .encIn n) (ht : execEncodeOp n s = .next t) (ht' : execEncodeOp n s' = .next t') :
    t.enc = t'.enc ∧ t.bytes .encOut t.enc.outLen = t'.bytes .encOut t'.enc.outLen := by
  have hend := (encAgree_started hin).encRun (encRun_of_execEncodeOp hb ht) (encRun_of_execEncodeOp hb' ht')
  exact ⟨hend.regs, hend.result_eq⟩

/-! ## Two runs of the decoder -/

/-- Two states that agree in all that the rest of a run of the decoder depends on, and in the bytes written so far. -/
structure DecAgree (s s' : State) : Prop where
  regs : s.dec = s'.dec
  input : ∀ k, k < s.dec.len → s.byteAt .decIn k = s'.byteAt .decIn k
  output : ∀ k, k < 3 * s.dec.g → k < decResultLen s.dec.len s.dec.pad.val → s.byteAt .decOut k = s'.byteAt .decOut k
  result_le : s.dec.outLen ≤ 3 * s.dec.g ∧ s.dec.outLen ≤ decResultLen s.dec.len s.dec.pad.val

/-- Before the first group nothing is written, so that the validation of both keeps them alike. -/
theorem DecAgree.setDec {s s' : State} (h : DecAgree s s') {r : DecRegs} (hr : s.dec.Validates r) (hg : s.dec.g = 0)
    (hout : s.dec.outLen = 0) : DecAgree (s.setDec r) (s'.setDec r) := by
  refine ⟨rfl, fun k hk => ?_, fun k hk => ?_, by simp [hr.outLen hout]⟩
  · simpa using h.input k (by simpa [hr.len] using hk)
  · simp [hr.g, hg] at hk

theorem DecAgree.decCls {s s' : State} (h : DecAgree s s') {k : Nat} (hk : k < s.dec.len) : s.decCls k = s'.decCls k :=
  congrArg cls (h.input k hk)

/-- The bytes of a group depend on its characters alone (R176). -/
theorem DecAgree.decGroupBytes {s s' : State} (h : DecAgree s s') (hg : s.dec.g < s.decNG) :
    s.decGroupBytes = s'.decGroupBytes := by
  unfold State.decNG at hg
  simp only [State.decGroupBytes, ← h.regs, h.input (4 * s.dec.g) (by omega), h.input (4 * s.dec.g + 1) (by omega),
    h.input (4 * s.dec.g + 2) (by omega), h.input (4 * s.dec.g + 3) (by omega)]

/-- The repack of the same group keeps two runs alike: what the last group leaves unwritten lies past the result (R107). -/
theorem DecAgree.decRepacked {s s' : State} (h : DecAgree s s') (hinv : DecInv s) (hst : s.dec.st = .repack)
    (hg : s.dec.g < s.decNG) (hov : s.overlap .decIn .decOut = false) (hov' : s'.overlap .decIn .decOut = false) :
    DecAgree s.decRepacked s'.decRepacked := by
  have hlen := (hinv.groupShape hst hg).length_decGroupBytes
  have hbytes := h.decGroupBytes hg
  refine ⟨by simp [h.regs], fun k hk => ?_, fun k hk hr => ?_, ?_⟩
  · rw [State.decRepacked_byteAt_decIn hov, State.decRepacked_byteAt_decIn hov']
    exact h.input k (by simpa using hk)
  · simp only [State.decRepacked_dec] at hk hr
    simp only [State.decRepacked, State.setDecG_byteAt, ← h.regs, ← hbytes]
    by_cases hlow : k < 3 * s.dec.g
    · rw [State.byteAt_writeBytes_of_lt hlow, State.byteAt_writeBytes_of_lt hlow]
      exact h.output k hlow hr
    · obtain ⟨j, rfl⟩ : ∃ j, k = 3 * s.dec.g + j := ⟨k - 3 * s.dec.g, by omega⟩
      have hj : j < s.decGroupBytes.length := by
        rw [hlen]
        unfold decResultLen at hr
        unfold State.decGroupPad State.decNG
        by_cases hlast : s.dec.g + 1 = s.dec.len / 4
        · rw [if_pos hlast]
          omega
        · rw [if_neg hlast]
          omega
      rw [State.byteAt_writeBytes_add hj, State.byteAt_writeBytes_add hj]
  · simp only [State.decRepacked_dec]
    exact ⟨by have := h.result_le.1; omega, h.result_le.2⟩

theorem DecAgree.decNext {s s' : State} (h : DecAgree s s') (hinv : DecInv s)
    (hov : s.overlap .decIn .decOut = false) (hov' : s'.overlap .decIn .decOut = false) :
    DecAgree s.decNext s'.decNext := by
  have ⟨_, hi, hg, _⟩ := hinv
  have hng : s.decNG = s'.decNG := by simp only [State.decNG, h.regs]
  unfold State.decNext
  rw [← h.regs, ← hng]
  cases hst : s.dec.st with
  | idle => exact h
  | done => exact h
  | check =>
    have hreg := hinv.of_check hst
    exact h.setDec s.dec.validates_checked (by rw [hreg]; rfl) (by rw [hreg]; rfl)
  | scan =>
    obtain ⟨hscan, hg0⟩ := hinv.of_scan hst
    have hout := hscan.outLen_eq_zero
    dsimp only
    split
    · exact h.setDec s.dec.validates_judged hg0 hout
    · next hne =>
      rw [← h.decCls (Nat.lt_of_le_of_ne hi hne)]
      exact h.setDec (s.dec.validates_scanned _) hg0 hout
  | repack =>
    dsimp only
    split
    · next heq =>
      have hres : decResultLen s.dec.len s.dec.pad.val ≤ 3 * s.dec.g := by
        rw [heq]
        simp only [decResultLen, State.decNG]
        omega
      refine ⟨rfl, fun k hk => ?_, fun k hk hr => ?_, hres, Nat.le_refl _⟩
      · simpa using h.input k hk
      · simpa using h.output k hk hr
    · next hne => exact h.decRepacked hinv hst (Nat.lt_of_le_of_ne hg hne) hov hov'

theorem decRun_succ_of_busy {s : State} (hb : decBusy s = true) (k : Nat) :
    decRun (k + 1) s = andThen (decStep s) (decRun k) := by simp [decRun, hb]

theorem decRun_of_rest {s : State} (hb : decBusy s = false) (k : Nat) : decRun k s = .next s := by
  cases k <;> simp [decRun, hb]

/-- Two runs of the decoder that start alike end alike. -/
theorem DecAgree.decRun {s s' t t' : State} {k : Nat} (h : DecAgree s s') (hinv : DecInv s) (hinv' : DecInv s')
    (ht : decRun k s = .next t) (ht' : decRun k s' = .next t') : DecAgree t t' := by
  induction k generalizing s s' with
  | zero =>
    cases ht
    cases ht'
    exact h
  | succ k ih =>
    cases hb : decBusy s with
    | false =>
      have hb' : decBusy s' = false := by rwa [decBusy, ← h.regs]
      rw [decRun_of_rest hb] at ht
      rw [decRun_of_rest hb'] at ht'
      cases ht
      cases ht'
      exact h
    | true =>
      have hb' : decBusy s' = true := by rwa [decBusy, ← h.regs]
      rw [decRun_succ_of_busy hb, andThen_eq_next] at ht
      rw [decRun_succ_of_busy hb', andThen_eq_next] at ht'
      obtain ⟨u, hu, ht⟩ := ht
      obtain ⟨u', hu', ht'⟩ := ht'
      obtain ⟨hs, -, rfl⟩ := (decStep_eq_next hinv hb).1 hu
      obtain ⟨hs', -, rfl⟩ := (decStep_eq_next hinv' hb').1 hu'
      have hov := (State.unsupported_dec_eq_false.1 hs).1
      have hov' := (State.unsupported_dec_eq_false.1 hs').1
      exact ih (h.decNext hinv hov hov') (hinv.decNext hov) (hinv'.decNext hov') ht ht'

/-- The result bytes of states that agree. -/
theorem DecAgree.result_eq {s s' : State} (h : DecAgree s s') :
    s.bytes .decOut s.dec.outLen = s'.bytes .decOut s'.dec.outLen := by
  obtain ⟨hg, hlen⟩ := h.result_le
  rw [← h.regs]
  exact State.bytes_eq_iff.2 fun k hk => h.output k (Nat.lt_of_lt_of_le hk hg) (Nat.lt_of_lt_of_le hk hlen)

/-- START leaves nothing of what ran before (R102). -/
theorem decAgree_started {s s' : State} {n : Nat} (h : s.bytes .decIn n = s'.bytes .decIn n) :
    DecAgree (s.setDec (DecRegs.started n)) (s'.setDec (DecRegs.started n)) := by
  refine ⟨rfl, fun k hk => ?_, fun k hk => absurd hk (Nat.not_lt_zero k), Nat.zero_le _, Nat.zero_le _⟩
  simpa using State.bytes_eq_iff.1 h k hk

/-- START with a length in bound establishes the decoder's invariant (R102). -/
theorem decInv_started {s : State} {n : Nat} (h : Config.lenInBound s.lenW .dec n = true) :
    DecInv (s.setDec (DecRegs.started n)) :=
  ⟨h, Nat.zero_le _, Nat.zero_le _, rfl⟩

/-- A `DECODE` of a unit that is not busy is the run from the registers of START, which meet the invariant (R106). -/
theorem decRun_of_execDecodeOp {s t : State} {n : Nat} (hb : decBusy s = false) (h : execDecodeOp n s = .next t) :
    DecInv (s.setDec (DecRegs.started n)) ∧
      decRun (1 + (n + 1) + (n / 4 + 1)) (s.setDec (DecRegs.started n)) = .next t := by
  obtain ⟨u, hu, ht⟩ := andThen_eq_next.1 h
  rcases execDecStart_eq_next.1 hu with ⟨hbusy, -⟩ | ⟨-, -, hlen, rfl⟩
  · exact absurd (hb.symm.trans hbusy) (by decide)
  · exact ⟨decInv_started hlen, ht⟩

theorem decodeOp_result_congr {s s' t t' : State} {n : Nat} (hb : decBusy s = false) (hb' : decBusy s' = false)
    (hin : s.bytes .decIn n = s'.bytes .decIn n) (ht : execDecodeOp n s = .next t) (ht' : execDecodeOp n s' = .next t') :
    t.dec = t'.dec ∧ t.bytes .decOut t.dec.outLen = t'.bytes .decOut t'.dec.outLen := by
  obtain ⟨hinv, hrun⟩ := decRun_of_execDecodeOp hb ht
  obtain ⟨hinv', hrun'⟩ := decRun_of_execDecodeOp hb' ht'
  have hend := (decAgree_started hin).decRun hinv hinv' hrun hrun'
  exact ⟨hend.regs, hend.result_eq⟩

/-- Settles O38: two runs whose units were not busy start from the registers of START, and stay alike to the end. -/
theorem noStateSurvivesAnOperation : Obligations.NoStateSurvivesAnOperation := by
  unfold Obligations.NoStateSurvivesAnOperation
  refine fun s s' t t' n _ => ⟨fun hb hb' hin ht ht' => ?_, fun hb hb' hin ht ht' => ?_⟩
  · exact encodeOp_result_congr hb hb' hin ((exec_encodeOp n s).symm.trans ht) ((exec_encodeOp n s').symm.trans ht')
  · exact decodeOp_result_congr hb hb' hin ((exec_decodeOp n s).symm.trans ht) ((exec_decodeOp n s').symm.trans ht')

/-- An encoder at rest with `Man` in `ENC.IN`, after reset. -/
def encodeFresh : State := { Tests.encAt 0 0 Tests.man with enc := EncRegs.reset }

/-- The same input after another operation, whose registers and characters are still there. -/
def encodeAgain : State :=
  { Tests.encAt 0 0 Tests.man with enc := ⟨.done, 1, 4, 4⟩, encOut := Memory.unwritten.loaded Tests.tq }

/-- O38 says something of `ENCODE`: from two states that differ it completes, with the same result. -/
theorem encode_fresh_again : encodeFresh.enc ≠ encodeAgain.enc ∧
    ∃ t t', exec (.encodeOp 3) encodeFresh = .next t ∧ exec (.encodeOp 3) encodeAgain = .next t' ∧
      t.enc = t'.enc ∧ t.bytes .encOut t.enc.outLen = t'.bytes .encOut t'.enc.outLen := by
  obtain ⟨t, ht⟩ : ∃ t, exec (.encodeOp 3) encodeFresh = .next t := ⟨_, rfl⟩
  obtain ⟨t', ht'⟩ : ∃ t', exec (.encodeOp 3) encodeAgain = .next t' := ⟨_, rfl⟩
  have hin : encodeFresh.bytes .encIn 3 = encodeAgain.bytes .encIn 3 := rfl
  have hresult := (noStateSurvivesAnOperation encodeFresh encodeAgain t t' 3 rfl).1 rfl rfl hin ht ht'
  exact ⟨by decide, t, t', ht, ht', hresult⟩

end Sys2Proof.Machine
end

section
/-! PROOFS. The flags and `STATUS` by the state of the unit (O49, O50; 10_state.md R25, R29), and the state after reset (O33,
O54; 10_state.md R37). -/

namespace Sys2Proof.Machine

/-! ## The flags -/

theorem not_busy_and_done (u : UnitId) (s : State) : ¬ (busy u s = true ∧ done u s = true) := by
  rintro ⟨hb, hd⟩
  cases u with
  | enc =>
    have hrun := encBusy_iff.1 hb
    simp [encDone_iff.1 hd] at hrun
  | dec =>
    have hrun := decBusy_iff.1 hb
    simp [decDone_iff.1 hd] at hrun

theorem enc_idle_iff {s : State} : busy .enc s = false ∧ done .enc s = false ↔ s.enc.st = .idle := by
  cases hst : s.enc.st <;> simp [busy, done, encBusy, encDone, hst]

theorem dec_idle_iff {s : State} : busy .dec s = false ∧ done .dec s = false ↔ s.dec.st = .idle := by
  cases hst : s.dec.st <;> simp [busy, done, decBusy, decDone, hst]

/-- Settles O49: the flags are read off the state of the unit. -/
theorem busyAndDoneExclude : Obligations.BusyAndDoneExclude := by
  unfold Obligations.BusyAndDoneExclude
  exact fun s => ⟨fun u => not_busy_and_done u s, enc_idle_iff, dec_idle_iff, encBusy_iff, decBusy_iff⟩

/-! ## `STATUS` -/

/-- The decoder has an error in `DONE` only (R22, R196). -/
theorem DecInv.err_eq_none {s : State} (h : DecInv s) (hst : s.dec.st ≠ .done) : s.dec.err = none := by
  cases hs : s.dec.st with
  | idle =>
    obtain ⟨-, -, -, hm⟩ := h
    have hreset : s.dec = DecRegs.reset := by simpa only [hs] using hm
    rw [hreset]
    rfl
  | check =>
    rw [h.of_check hs]
    rfl
  | scan =>
    obtain ⟨⟨-, -, -, herr, -⟩, -⟩ := h.of_scan hs
    exact herr
  | repack =>
    obtain ⟨⟨-, -, -, herr, -⟩, -⟩ := h.of_repack hs
    exact herr
  | done => exact absurd hs hst

/-- The bits of `STATUS` (R29). -/
theorem status_of_flags {u : UnitId} {s : State} {e : BitVec 2} {d b : Bool} (he : statusErr u s = e) (hd : done u s = d)
    (hb : busy u s = b) : status u s = e ++ BitVec.ofBool d ++ BitVec.ofBool b := by
  rw [← he, ← hd, ← hb]
  rfl

/-- `ENC.STATUS` is idle, busy or done, without an error (R29, R207). -/
theorem status_enc_mem (s : State) : status .enc s ∈ [(0b0000 : BitVec 4), 0b0001, 0b0010] := by
  have hbits := status_of_flags (u := .enc) (s := s) rfl rfl rfl
  simp only [statusErr, done, busy, encDone, encBusy] at hbits
  rw [hbits]
  cases s.enc.st <;> decide

/-- Before `DONE` `DEC.STATUS` is idle or busy, without an error (R22, R29). -/
theorem status_dec_mem_of_not_done {s : State} (h : DecInv s) (hst : s.dec.st ≠ .done) :
    status .dec s ∈ [(0b0000 : BitVec 4), 0b0001] := by
  have herr : statusErr .dec s = 0 := by simp [statusErr, h.err_eq_none hst, errCode]
  have hdone : done .dec s = false := by simp [done, decDone, hst]
  rw [status_of_flags herr hdone rfl]
  cases busy .dec s <;> decide

/-- In `DONE` `DEC.STATUS` is done, with or without one of the three errors (R22, R29). -/
theorem status_dec_mem_of_done {s : State} (hst : s.dec.st = .done) :
    status .dec s ∈ [(0b0010 : BitVec 4), 0b0110, 0b1010, 0b1110] := by
  have hdone : done .dec s = true := by simp [done, decDone, hst]
  have hbusy : busy .dec s = false := by simp [busy, decBusy, hst]
  rw [status_of_flags rfl hdone hbusy]
  unfold statusErr
  cases s.dec.err with
  | none => decide
  | some k => cases k <;> decide

/-- Settles O50: the encoder has no error code, the decoder one in `DONE` only. -/
theorem statusTakesLegalValuesOnly : Obligations.StatusTakesLegalValuesOnly := by
  unfold Obligations.StatusTakesLegalValuesOnly
  rintro s ⟨-, -, hdec, -⟩
  refine ⟨status_enc_mem s, ?_⟩
  by_cases hst : s.dec.st = .done
  · have hmem := status_dec_mem_of_done hst
    simp only [List.mem_cons, List.not_mem_nil, or_false] at hmem ⊢
    exact .inr (.inr hmem)
  · have hmem := status_dec_mem_of_not_done hdec hst
    simp only [List.mem_cons, List.not_mem_nil, or_false] at hmem ⊢
    exact hmem.imp_right .inl

/-! ## Reset -/

/-- Both units are at rest after reset, with `STATUS` 0 (R37). -/
theorem reset_flags (u : UnitId) :
    busy u State.reset = false ∧ done u State.reset = false ∧ status u State.reset = 0b0000 := by
  cases u <;> exact ⟨rfl, rfl, rfl⟩

/-- Settles O33: `State.reset` is written out. -/
theorem resetStateIsTheSpecs : Obligations.ResetStateIsTheSpecs := by
  unfold Obligations.ResetStateIsTheSpecs
  exact ⟨rfl, rfl, reset_flags, fun sp => by cases sp <;> rfl, rfl⟩

/-- Settles O54: empty memories are in canonical form, both units are in `IDLE` with the registers of reset, and no unit
is busy. -/
theorem invariantAtReset : Obligations.InvariantAtReset := by
  have hmem : MemoriesWf State.reset := by
    refine ⟨?_, ?_, ?_, ?_, ?_⟩ <;> exact Memory.wf_unwritten
  have henc : EncInv State.reset := ⟨rfl, rfl⟩
  have hdec : DecInv State.reset := ⟨rfl, Nat.le_refl _, Nat.le_refl _, rfl⟩
  exact ⟨hmem, henc, hdec, fun u hb => absurd ((reset_flags u).1.symm.trans hb) (by decide)⟩

end Sys2Proof.Machine
end

section
/-! PROOFS. What each input runs (O3; log 5, log 6): the word it presents, decoded and executed in the state less the input. -/

namespace Sys2Proof.Machine

theorem unitWord_of_supported_enc {s : State} (h : s.unsupported .enc = false) : unitWord .enc s = .ok (encWord s) := by
  simp [unitWord, h]

theorem unitWord_of_supported_dec {s : State} (h : s.unsupported .dec = false) : unitWord .dec s = decWord s := by
  simp [unitWord, h]

/-- A step of a busy unit whose buffers overlap is refused (R231, U12). -/
theorem unitWord_of_unsupported {u : UnitId} {s : State} (hb : busy u s = true) (h : s.unsupported u = true) :
    unitWord u s = .error (.overlappingBuffers u) := by
  simp [unitWord, hb, h]

/-- A unit at rest presents no word (R83). -/
theorem unitWord_of_rest {u : UnitId} {s : State} (hb : busy u s = false) : unitWord u s = .ok none := by
  cases u with
  | enc =>
    have hrun : s.enc.st ≠ .run := fun h => by simp [busy, encBusy, h] at hb
    cases hst : s.enc.st <;> simp_all [unitWord, encWord]
  | dec => cases hst : s.dec.st <;> simp_all [unitWord, decWord, busy, decBusy]

/-- An input that presents a word runs the instruction decoded from it, in the state less the input. -/
theorem step_of_input_word {s t : State} {inp : Input} {rest : List Input} {p : PortWord} {i : Instr}
    (hs : s.agenda = inp :: rest) (hp : present inp { s with agenda := rest } = .word p t)
    (hd : decode t.lenW p = .ok i) : step s = exec i t :=
  step_of_fetch_word ((fetch_of_agenda hs).trans hp) hd

/-- An input that is no word of the decoder has its own outcome. -/
theorem step_of_input_other {s : State} {inp : Input} {rest : List Input} {o : Out} (hs : s.agenda = inp :: rest)
    (hp : present inp { s with agenda := rest } = .other o) : step s = o :=
  step_of_fetch_other ((fetch_of_agenda hs).trans hp)

/-- With no input to come the word of the unit that is taken is executed. -/
theorem step_of_freeRun_word {s t : State} {x : UnitId} {p : PortWord} {i : Instr} (hs : s.agenda = [])
    (hf : freeRun s = unitEdge x t) (hw : unitWord x t = .ok (some p)) (hd : decode t.lenW p = .ok i) :
    step s = exec i t :=
  step_of_fetch_word (((fetch_of_no_agenda hs).trans hf).trans (unitEdge_of_word hw)) hd

/-- A draw of a free value changes no word that a unit presents (log 6). -/
theorem unitWord_draw (x : UnitId) (s : State) : unitWord x s.draw = unitWord x s := by cases x <;> rfl

/-- Settles O3: each clause names what is fetched, and `step` runs it. -/
theorem stepRunsTheDecodedInstruction : Obligations.StepRunsTheDecodedInstruction := by
  unfold Obligations.StepRunsTheDecodedInstruction
  refine fun s => ⟨?ctrl, ?call, ?rstWithWrite, ?rst, ?encIndex, ?decIndex, ?clk, ?clkAtRest, ?freeEnc, ?freeDec,
    unitWord_of_supported_enc, unitWord_of_supported_dec, ?clkUnsupported, ?freeBoth, ?freeAtRest⟩
  case ctrl => exact fun i u w rest hs hd => step_of_input_word hs rfl hd
  case call => exact fun i u w rest hs hd => step_of_input_word hs rfl hd
  case rstWithWrite => exact fun u reg w rest hs => step_of_input_word hs rfl rfl
  case rst => exact fun rest hs => step_of_input_word hs rfl rfl
  case encIndex => exact fun i k rest hs hd => step_of_input_word hs rfl hd
  case decIndex => exact fun i c rest hs hd => step_of_input_word hs rfl hd
  case clk => exact fun i u p rest hs hw hd => step_of_input_word hs (unitEdge_of_word hw) hd
  case clkAtRest => exact fun u rest hs hb => step_of_input_other hs (unitEdge_of_no_word (unitWord_of_rest hb))
  case freeEnc => exact fun i p hs he hd hw => step_of_freeRun_word hs (freeRun_of_enc he hd) hw
  case freeDec => exact fun i p hs he hw => step_of_freeRun_word hs (freeRun_of_not_enc he) hw
  case clkUnsupported =>
    exact fun u rest hs hb hu => step_of_input_other hs (unitEdge_of_error (unitWord_of_unsupported hb hu))
  case freeBoth =>
    exact fun hs he hd i p hw => step_of_freeRun_word hs (freeRun_of_both he hd) ((unitWord_draw _ s).trans hw)
  case freeAtRest =>
    exact fun hs he hd => step_of_fetch_other
      (((fetch_of_no_agenda hs).trans (freeRun_of_not_enc he)).trans (unitEdge_of_no_word (unitWord_of_rest hd)))

end Sys2Proof.Machine
end

section
/-! PROOFS. The host's accesses (O51; 10_state.md R27 to R30, 20_memory.md R58, 40_commands.md R100): of a register by its number,
and of what the platform places at an address (log 18). -/

namespace Sys2Proof.Machine

/-! ## What is placed at an address -/

theorem State.registersAt_isReg {s : State} {a : Nat} {p : Place} (h : p ∈ s.registersAt a) : ∃ u r, p = .reg u r := by
  obtain ⟨c, -, rfl⟩ := List.mem_map.1 h
  exact ⟨c.u, c.r, rfl⟩

/-- At most one entry of a buffer stands at an address. -/
theorem State.entryAt_cases (s : State) (a : Nat) (sp : Space) :
    s.entryAt a sp = [] ∨ ∃ k, s.entryAt a sp = [.entry sp k] := by
  unfold State.entryAt
  cases s.bufMap.window sp with
  | none => exact .inl rfl
  | some w =>
    dsimp only
    split
    · exact .inr ⟨_, rfl⟩
    · exact .inl rfl

theorem State.entryAt_of_not_placedIn {s : State} {a : Nat} {sp : Space} (h : s.placedIn sp a = false) :
    s.entryAt a sp = [] := by
  unfold State.entryAt
  cases s.bufMap.window sp <;> simp [h]

theorem State.not_reg_mem_entryAt {s : State} {a : Nat} {sp : Space} {u : UnitId} {r : Fin 4} :
    Place.reg u r ∉ s.entryAt a sp := by
  rcases s.entryAt_cases a sp with h | ⟨k, h⟩ <;> simp [h]

/-- A register at an address is one that `CSR_MAP` places there. -/
theorem State.reg_mem_registersAt {s : State} {a : Nat} {u : UnitId} {r : Fin 4} (h : .reg u r ∈ s.placesAt a) :
    .reg u r ∈ s.registersAt a := by
  simpa [State.placesAt, State.not_reg_mem_entryAt] using h

/-- Where a register is placed, an access means all that is placed there (R58). -/
theorem State.readableAt_of_registers {s : State} {a : Nat} (h : s.registersAt a ≠ []) : s.readableAt a = s.placesAt a := by
  unfold State.readableAt
  cases hr : s.registersAt a with
  | nil => exact absurd hr h
  | cons p l => rfl

theorem State.writableAt_of_registers {s : State} {a : Nat} (h : s.registersAt a ≠ []) : s.writableAt a = s.placesAt a := by
  unfold State.writableAt
  cases hr : s.registersAt a with
  | nil => exact absurd hr h
  | cons p l => rfl

/-- Where no register is placed, a read means an entry of an `OUT` buffer (R100). -/
theorem State.readableAt_of_no_register {s : State} {a : Nat} (h : s.registersAt a = []) :
    s.readableAt a = s.entryAt a .encOut ++ s.entryAt a .decOut := by
  simp only [State.readableAt, h]

/-- Where no register is placed, a write means an entry of an `IN` buffer (R100). -/
theorem State.writableAt_of_no_register {s : State} {a : Nat} (h : s.registersAt a = []) :
    s.writableAt a = s.entryAt a .encIn ++ s.entryAt a .decIn := by
  simp only [State.writableAt, h]

/-- Where exactly a register is placed, an access means that register. -/
theorem State.accessesAt_of_register {s : State} {a : Nat} {u : UnitId} {r : Fin 4} (h : s.placesAt a = [.reg u r]) :
    s.readableAt a = [.reg u r] ∧ s.writableAt a = [.reg u r] := by
  have hne : s.registersAt a ≠ [] :=
    List.ne_nil_of_mem (State.reg_mem_registersAt (u := u) (r := r) (by simp [h]))
  exact ⟨(State.readableAt_of_registers hne).trans h, (State.writableAt_of_registers hne).trans h⟩

/-- Where a register shares its address, it is the first of at least two places. -/
theorem State.placesAt_of_shared_register {s : State} {a : Nat} (h : s.registersAt a ≠ [])
    (hne : ∀ p, s.placesAt a ≠ [p]) : ∃ u r p l, s.placesAt a = .reg u r :: p :: l := by
  cases hr : s.registersAt a with
  | nil => exact absurd hr h
  | cons p l =>
    obtain ⟨u, r, rfl⟩ := State.registersAt_isReg (s := s) (a := a) (p := p) (by simp [hr])
    cases hp : s.placesAt a with
    | nil => simp [State.placesAt, hr] at hp
    | cons q l' =>
      have hq : q = .reg u r := by
        simp only [State.placesAt, hr, List.cons_append, List.cons.injEq] at hp
        exact hp.1.symm
      cases l' with
      | nil => exact absurd hp (hne q)
      | cons p' l'' => exact ⟨u, r, p', l'', by rw [hq]⟩

/-! ## Accesses by address -/

theorem hostBusRead_of_register {s : State} {a : Nat} {u : UnitId} {r : Fin 4} (h : s.readableAt a = [.reg u r]) :
    hostBusRead a s = hostReadReg u r s := by
  simp only [hostBusRead, h]

theorem hostBusRead_of_nothing {s : State} {a : Nat} (h : s.readableAt a = []) :
    hostBusRead a s = .refused (.noSuchBusAccess a) := by
  simp only [hostBusRead, h]

theorem hostBusRead_of_shared {s : State} {a : Nat} {u : UnitId} {r : Fin 4} {p : Place} {l : List Place}
    (h : s.readableAt a = .reg u r :: p :: l) : hostBusRead a s = .refused (.noSuchBusAccess a) := by
  simp only [hostBusRead, h]

/-- Where both `OUT` buffers share the address, the encoder's result is read if it is done (R231). -/
theorem hostBusRead_of_both {s : State} {a k j : Nat} (h : s.readableAt a = [.entry .encOut k, .entry .decOut j]) :
    hostBusRead a s = if encDone s then hostReadOut .enc k s else hostReadOut .dec j s := by
  simp only [hostBusRead, h]

theorem busWritten_of_register {s : State} {a w : Nat} {u : UnitId} {r : Fin 4} (h : s.writableAt a = [.reg u r]) :
    busWritten a w s = writeRegister u r w s := by
  simp only [busWritten, h]

theorem busWritten_of_nothing {s : State} {a w : Nat} (h : s.writableAt a = []) :
    busWritten a w s = .other (.refused (.noSuchBusAccess a)) := by
  simp only [busWritten, h]

theorem busWritten_of_shared {s : State} {a w : Nat} {u : UnitId} {r : Fin 4} {p : Place} {l : List Place}
    (h : s.writableAt a = .reg u r :: p :: l) : busWritten a w s = .other (.refused (.noSuchBusAccess a)) := by
  simp only [busWritten, h]

/-- Where both `IN` buffers share the address, one write is of both (R231). -/
theorem busWritten_of_both {s : State} {a w k j : Nat} (h : s.writableAt a = [.entry .encIn k, .entry .decIn j]) :
    busWritten a w s = .other (hostBusWriteIn .enc k a w s) := by
  simp only [busWritten, h]

theorem hostBusWriteIn_of_wide {u : UnitId} {k a w : Nat} {s : State} (h : 256 ≤ w) :
    hostBusWriteIn u k a w s = .refused (.noSuchBusAccess a) := by
  simp [hostBusWriteIn, Nat.not_lt.2 h]

/-- More than a byte is no access of a buffer (R50, R100). -/
theorem busWritten_of_wide {s : State} {a w : Nat} (hreg : s.registersAt a = []) (h : 256 ≤ w) :
    busWritten a w s = .other (.refused (.noSuchBusAccess a)) := by
  have hw := State.writableAt_of_no_register hreg
  rcases s.entryAt_cases a .encIn with he | ⟨k, he⟩ <;> rcases s.entryAt_cases a .decIn with hd | ⟨j, hd⟩ <;>
    simp [busWritten, hw, he, hd, hostBusWriteIn_of_wide h]

/-! ## Accesses of the registers -/

/-- A CMD word with `start` = 0 does nothing (R28). -/
theorem decode_ctrl_of_start_zero {lenW : Option Nat} (u : UnitId) {len : Nat} (h : Config.fitsLen lenW len = true) :
    decode lenW (.ctrl u (2 * len)) = .error .startBitZero := by
  have hlen : commandLen lenW (2 * len) = .error .startBitZero := by simp [commandLen, h]
  cases u <;> simp [decode, hlen, Except.map]

theorem step_of_start_zero {s : State} {u : UnitId} {len : Nat} {rest : List Input}
    (h : Config.fitsLen s.lenW len = true) (hs : s.agenda = .writeReg u 0 (2 * len) false :: rest) :
    step s = .next { s with agenda := rest } :=
  step_of_fetch_rejected ((fetch_of_agenda hs).trans rfl) (decode_ctrl_of_start_zero u h)

/-- A write of a read-only register is ignored (R27, R29, R30). -/
theorem step_of_read_only {s : State} {u : UnitId} {reg : Fin 4} {w : Nat} {rest : List Input} (h : reg ≠ 0)
    (hs : s.agenda = .writeReg u reg w false :: rest) : step s = .next { s with agenda := rest } :=
  step_of_input_other hs (by simp [present, writeRegister, h])

/-- The step depends on what is fetched alone. -/
theorem step_congr {s t : State} (h : fetch s = fetch t) : step s = step t := by
  simp only [step, h]

/-- Settles O51: each clause is one case of what the address or the register number reaches. -/
theorem registerAccesses : Obligations.RegisterAccesses := by
  unfold Obligations.RegisterAccesses
  intro s u rest t
  refine ⟨?ctrl, ?len, ?status, ?outLen, ?readOnly, ?startZero, ?register, ?shared, ?entries⟩
  case ctrl => exact fun hs => step_of_input_other hs rfl
  case len => exact fun hs => step_of_input_other hs rfl
  case status => exact fun hs => step_of_input_other hs rfl
  case outLen => exact fun hs => step_of_input_other hs rfl
  case readOnly => exact fun reg w hreg hs => step_of_read_only hreg hs
  case startZero => exact fun len hlen hs => step_of_start_zero hlen hs
  case register =>
    intro a reg hplaces
    obtain ⟨hread, hwrite⟩ := State.accessesAt_of_register hplaces
    refine ⟨fun hs => step_congr ?_, fun w hs => step_congr ?_⟩
    · exact (fetch_of_agenda hs).trans (congrArg Fetched.other (hostBusRead_of_register (s := t) hread))
    · exact (fetch_of_agenda hs).trans (busWritten_of_register (s := t) hwrite)
  case shared =>
    intro a hreg hne
    obtain ⟨v, r, p, l, hplaces⟩ := State.placesAt_of_shared_register hreg hne
    refine ⟨fun hs => step_of_input_other hs ?_, fun w hs => step_of_input_other hs ?_⟩
    · exact congrArg Fetched.other
        (hostBusRead_of_shared (s := t) ((State.readableAt_of_registers (s := t) hreg).trans hplaces))
    · exact busWritten_of_shared (s := t) ((State.writableAt_of_registers (s := t) hreg).trans hplaces)
  case entries =>
    intro a hreg
    have hread : t.readableAt a = t.entryAt a .encOut ++ t.entryAt a .decOut := State.readableAt_of_no_register hreg
    have hwrite : t.writableAt a = t.entryAt a .encIn ++ t.entryAt a .decIn := State.writableAt_of_no_register hreg
    refine ⟨fun hs he hd => step_of_input_other hs ?_, fun w hs he hd => step_of_input_other hs ?_,
      fun w hw hs => step_of_input_other hs ?_, fun k j hs hboth => step_congr ?_, fun k j v hs hboth => step_congr ?_⟩
    · refine congrArg Fetched.other (hostBusRead_of_nothing (s := t) ?_)
      rw [hread, State.entryAt_of_not_placedIn (s := t) he, State.entryAt_of_not_placedIn (s := t) hd]
      rfl
    · refine busWritten_of_nothing (s := t) ?_
      rw [hwrite, State.entryAt_of_not_placedIn (s := t) he, State.entryAt_of_not_placedIn (s := t) hd]
      rfl
    · exact busWritten_of_wide (s := t) hreg hw
    · refine (fetch_of_agenda hs).trans ((congrArg Fetched.other (hostBusRead_of_both (s := t) hboth)).trans ?_)
      have hdone : encDone t = encDone s := rfl
      rw [hdone]
      cases encDone s <;> rfl
    · refine (fetch_of_agenda hs).trans ((busWritten_of_both (s := t) hboth).trans ?_)
      exact congrArg Fetched.other (hostBusWriteIn_toNat .enc k a v t)

end Sys2Proof.Machine
end

section
/-! PROOFS. The two units do not disturb each other (O46; 20_memory.md R62, 60_exceptions.md R204): every operation of a unit
writes that unit's registers and bytes of its `OUT` buffer only, and sees nothing that the other unit writes where no buffer of
one shares an address with a buffer of the other (10_state.md R33, 70_reset_and_hazards.md R231). -/

namespace Sys2Proof.Machine

/-! ## Writes at different entries commute -/

/-- The order of two writes at different indices leaves no trace in the list, whether or not it rises. -/
theorem insertCell_comm (l : List Host.Cell) {j k : Nat} (h : j ≠ k) (v w : Byte) :
    insertCell (insertCell l j v) k w = insertCell (insertCell l k w) j v := by
  induction l with
  | nil => grind [insertCell]
  | cons c r ih => grind [insertCell]

theorem Memory.set_comm (m : Memory) {j k : Nat} (h : j ≠ k) (v w : Byte) :
    (m.set j v).set k w = (m.set k w).set j v := by
  simp only [Memory.set, insertCell_comm m.cells h]

theorem State.setByte_of_addrOf {s : State} {sp : Space} {k a : Nat} (h : s.addrOf sp k = some a) (v : Byte) :
    s.setByte sp k v = { s with sysMem := s.sysMem.set a v } := by
  simp only [State.setByte, h]

theorem State.setByte_of_no_addr {s : State} {sp : Space} {k : Nat} (h : s.addrOf sp k = none) (v : Byte) :
    s.setByte sp k v = s.setMem sp ((s.mem sp).set k v) := by
  simp only [State.setByte, h]

/-- Bytes of buffers that share no address are written in either order (R231). -/
theorem State.setByte_comm {s : State} {sp sp₂ : Space} (hne : sp ≠ sp₂) (hov : s.overlap sp sp₂ = false) (k j : Nat)
    (v w : Byte) : (s.setByte sp k v).setByte sp₂ j w = (s.setByte sp₂ j w).setByte sp k v := by
  have hk := State.setByte_addrOf s sp₂ j w sp k
  have hj := State.setByte_addrOf s sp k v sp₂ j
  cases ha : s.addrOf sp k with
  | some a =>
    cases hb : s.addrOf sp₂ j with
    | some b =>
      have hab : a ≠ b := by
        rintro rfl
        have hout := State.not_placedIn_of_overlap hov (State.placedIn_of_addrOf ha)
        exact Bool.false_ne_true (hout.symm.trans (State.placedIn_of_addrOf hb))
      rw [State.setByte_of_addrOf (hj.trans hb), State.setByte_of_addrOf ha, State.setByte_of_addrOf (hk.trans ha),
        State.setByte_of_addrOf hb]
      simp only [Memory.set_comm s.sysMem hab]
    | none =>
      rw [State.setByte_of_no_addr (hj.trans hb), State.setByte_of_addrOf ha, State.setByte_of_addrOf (hk.trans ha),
        State.setByte_of_no_addr hb]
      cases sp₂ <;> rfl
  | none =>
    cases hb : s.addrOf sp₂ j with
    | some b =>
      rw [State.setByte_of_addrOf (hj.trans hb), State.setByte_of_no_addr ha, State.setByte_of_no_addr (hk.trans ha),
        State.setByte_of_addrOf hb]
      cases sp <;> rfl
    | none =>
      rw [State.setByte_of_no_addr (hj.trans hb), State.setByte_of_no_addr ha, State.setByte_of_no_addr (hk.trans ha),
        State.setByte_of_no_addr hb]
      cases sp <;> cases sp₂ <;> first | rfl | exact absurd rfl hne

/-! ## The registers of a unit -/

/-- The registers of a unit (R21, R22). -/
def UnitRegs : UnitId → Type
  | .enc => EncRegs
  | .dec => DecRegs

/-- Reads the registers of a unit. -/
def State.regs (s : State) : (u : UnitId) → UnitRegs u
  | .enc => s.enc
  | .dec => s.dec

/-- Writes the registers of a unit. -/
def State.setRegs (s : State) : (u : UnitId) → UnitRegs u → State
  | .enc, r => s.setEnc r
  | .dec, r => s.setDec r

section
variable (s : State) (u : UnitId) (r : UnitRegs u)

@[simp] theorem State.setRegs_encIn : (s.setRegs u r).encIn = s.encIn := by cases u <;> rfl
@[simp] theorem State.setRegs_decIn : (s.setRegs u r).decIn = s.decIn := by cases u <;> rfl
@[simp] theorem State.setRegs_lenW : (s.setRegs u r).lenW = s.lenW := by cases u <;> rfl
@[simp] theorem State.setRegs_csrMap : (s.setRegs u r).csrMap = s.csrMap := by cases u <;> rfl
@[simp] theorem State.setRegs_bufMap : (s.setRegs u r).bufMap = s.bufMap := by cases u <;> rfl
@[simp] theorem State.setRegs_byteAt (sp : Space) (k : Nat) : (s.setRegs u r).byteAt sp k = s.byteAt sp k := by
  cases u with
  | enc => exact s.setEnc_byteAt r sp k
  | dec => exact s.setDec_byteAt r sp k
@[simp] theorem State.setRegs_holds (sp : Space) (k : Nat) : (s.setRegs u r).holds sp k = s.holds sp k := by
  cases u with
  | enc => exact s.setEnc_holds r sp k
  | dec => exact s.setDec_holds r sp k

/-- A unit's registers are not the other's. -/
theorem State.regs_setRegs_other (r' : UnitRegs (otherUnit u)) : (s.setRegs (otherUnit u) r').regs u = s.regs u := by
  cases u <;> rfl

theorem State.setRegs_comm (r' : UnitRegs (otherUnit u)) :
    (s.setRegs u r).setRegs (otherUnit u) r' = (s.setRegs (otherUnit u) r').setRegs u r := by
  cases u <;> rfl

@[simp] theorem State.setByte_regs (sp : Space) (k : Nat) (v : Byte) : (s.setByte sp k v).regs u = s.regs u := by
  cases u with
  | enc => exact s.setByte_enc sp k v
  | dec => exact s.setByte_dec sp k v

/-- Registers and bytes are written in either order. -/
theorem State.setByte_setRegs (sp : Space) (k : Nat) (v : Byte) :
    (s.setByte sp k v).setRegs u r = (s.setRegs u r).setByte sp k v := by
  have haddr : (s.setRegs u r).addrOf sp k = s.addrOf sp k := State.addrOf_congr (by simp) sp k
  cases ha : s.addrOf sp k with
  | some a =>
    rw [State.setByte_of_addrOf ha, State.setByte_of_addrOf (haddr.trans ha)]
    cases u <;> rfl
  | none =>
    rw [State.setByte_of_no_addr ha, State.setByte_of_no_addr (haddr.trans ha)]
    cases u <;> cases sp <;> rfl

end

/-! ## What a unit does to the state -/

theorem State.unitsOverlap_congr {s t : State} (h : t.bufMap = s.bufMap) : t.unitsOverlap = s.unitsOverlap := by
  simp only [State.unitsOverlap, State.overlap_congr h]

theorem outSpace_ne_other (u : UnitId) : outSpace u ≠ outSpace (otherUnit u) := by cases u <;> decide

theorem outSpace_ne_inSpace (u v : UnitId) : outSpace u ≠ inSpace v := by cases u <;> cases v <;> decide

/-- Where the units share no address, an `OUT` buffer overlaps no buffer of the other unit. -/
theorem State.overlap_of_unitsOverlap {s : State} (h : s.unitsOverlap = false) (u : UnitId) :
    s.overlap (outSpace u) (outSpace (otherUnit u)) = false ∧ s.overlap (outSpace (otherUnit u)) (inSpace u) = false := by
  simp only [State.unitsOverlap, Bool.or_eq_false_iff] at h
  obtain ⟨⟨⟨-, hio⟩, hoi⟩, hoo⟩ := h
  cases u with
  | enc => exact ⟨hoo, (s.overlap_comm .decOut .encIn).trans hio⟩
  | dec => exact ⟨(s.overlap_comm .decOut .encOut).trans hoo, hoi⟩

/-- A change of the state that unit `u` can make: writes of its registers and of bytes of its `OUT` buffer, in a row. -/
inductive UnitEffect (u : UnitId) : (State → State) → Prop
  | nothing : UnitEffect u fun s => s
  | regs (r : UnitRegs u) : UnitEffect u fun s => s.setRegs u r
  | byte (k : Nat) (v : Byte) : UnitEffect u fun s => s.setByte (outSpace u) k v
  | andThen {F G : State → State} : UnitEffect u F → UnitEffect u G → UnitEffect u fun s => G (F s)

/-- What no register write and no byte written changes, no effect of a unit changes. -/
theorem UnitEffect.induction {u : UnitId} {F : State → State} (h : UnitEffect u F) {P : State → Prop}
    (hregs : ∀ t r, P t → P (t.setRegs u r)) (hbyte : ∀ t k v, P t → P (t.setByte (outSpace u) k v)) {s : State} (hs : P s) :
    P (F s) := by
  induction h generalizing s with
  | nothing => exact hs
  | regs r => exact hregs s r hs
  | byte k v => exact hbyte s k v hs
  | andThen _ _ ihF ihG => exact ihG (ihF hs)

theorem UnitEffect.bufMap_eq {u : UnitId} {F : State → State} (h : UnitEffect u F) (s : State) :
    (F s).bufMap = s.bufMap :=
  h.induction (P := fun t => t.bufMap = s.bufMap) (by simp) (by simp) rfl

theorem UnitEffect.lenW_eq {u : UnitId} {F : State → State} (h : UnitEffect u F) (s : State) : (F s).lenW = s.lenW :=
  h.induction (P := fun t => t.lenW = s.lenW) (by simp) (by simp) rfl

theorem UnitEffect.holds_eq {u : UnitId} {F : State → State} (h : UnitEffect u F) (s : State) (sp : Space) (k : Nat) :
    (F s).holds sp k = s.holds sp k :=
  h.induction (P := fun t => t.holds sp k = s.holds sp k) (by simp) (by simp) rfl

theorem UnitEffect.unitsOverlap_eq {u : UnitId} {F : State → State} (h : UnitEffect u F) (s : State) :
    (F s).unitsOverlap = s.unitsOverlap := State.unitsOverlap_congr (h.bufMap_eq s)

/-- The other unit leaves a unit's registers alone. -/
theorem UnitEffect.regs_eq {u : UnitId} {G : State → State} (h : UnitEffect (otherUnit u) G) (s : State) :
    (G s).regs u = s.regs u :=
  h.induction (P := fun t => t.regs u = s.regs u) (fun t _ ht => (State.regs_setRegs_other ..).trans ht) (by simp) rfl

theorem UnitEffect.enc_eq {G : State → State} (h : UnitEffect .dec G) (s : State) : (G s).enc = s.enc :=
  UnitEffect.regs_eq (u := .enc) h s

theorem UnitEffect.dec_eq {F : State → State} (h : UnitEffect .enc F) (s : State) : (F s).dec = s.dec :=
  UnitEffect.regs_eq (u := .dec) h s

/-- The other unit leaves a unit's input alone where they share no address. -/
theorem UnitEffect.byteAt_inSpace_eq {u : UnitId} {G : State → State} (h : UnitEffect (otherUnit u) G) {s : State}
    (hov : s.unitsOverlap = false) (k : Nat) : (G s).byteAt (inSpace u) k = s.byteAt (inSpace u) k := by
  refine (h.induction (P := fun t => t.bufMap = s.bufMap ∧ t.byteAt (inSpace u) k = s.byteAt (inSpace u) k)
    (by simp) ?_ ⟨rfl, rfl⟩).2
  rintro t j v ⟨hmap, hbyte⟩
  have hin := (State.overlap_of_unitsOverlap ((State.unitsOverlap_congr hmap).trans hov) u).2
  exact ⟨by simpa using hmap, (State.byteAt_setByte_of_overlap (outSpace_ne_inSpace _ _) hin j k v).trans hbyte⟩

/-- What is written first commutes with any effect of the other unit, if it does with each write. -/
theorem UnitEffect.comm_of_writes {u : UnitId} {F G : State → State} (hG : UnitEffect (otherUnit u) G)
    (hregs : ∀ s r, F (s.setRegs (otherUnit u) r) = (F s).setRegs (otherUnit u) r)
    (hbyte : ∀ s k v, s.unitsOverlap = false →
      F (s.setByte (outSpace (otherUnit u)) k v) = (F s).setByte (outSpace (otherUnit u)) k v)
    {s : State} (hov : s.unitsOverlap = false) : F (G s) = G (F s) := by
  induction hG generalizing s with
  | nothing => rfl
  | regs r => exact hregs s r
  | byte k v => exact hbyte s k v hov
  | andThen hG₁ _ ih₁ ih₂ => rw [ih₂ ((hG₁.unitsOverlap_eq s).trans hov), ih₁ hov]

/-- Effects of the two units commute where they share no address (R62, R204). -/
theorem UnitEffect.comm {u : UnitId} {F G : State → State} (hF : UnitEffect u F) (hG : UnitEffect (otherUnit u) G) {s : State}
    (hov : s.unitsOverlap = false) : F (G s) = G (F s) := by
  induction hF generalizing s with
  | nothing => rfl
  | regs r =>
    exact hG.comm_of_writes (F := fun t => t.setRegs u r) (fun t r' => (t.setRegs_comm u r r').symm)
      (fun t k v _ => State.setByte_setRegs t u r _ k v) hov
  | byte k v =>
    exact hG.comm_of_writes (F := fun t => t.setByte (outSpace u) k v) (fun t r' => (State.setByte_setRegs t _ r' _ k v).symm)
      (fun t j w ht => (State.setByte_comm (outSpace_ne_other u) (State.overlap_of_unitsOverlap ht u).1 k j v w).symm) hov
  | andThen hF₁ _ ih₁ ih₂ =>
    dsimp only
    rw [ih₁ hov, ih₂ ((hF₁.unitsOverlap_eq s).trans hov)]

/-! ## Operations of one unit -/

/-- The outcome with a further change of the next state, where there is one. -/
def mapNext (G : State → State) (o : Out) : Out := andThen o fun t => .next (G t)

@[simp] theorem mapNext_next (G : State → State) (t : State) : mapNext G (.next t) = .next (G t) := rfl

theorem mapNext_eq_next {G : State → State} {o : Out} {t : State} : mapNext G o = .next t ↔ ∃ w, o = .next w ∧ G w = t := by
  simp [mapNext, andThen_eq_next]

/-- A reading of the state that the other unit cannot change where the units share no address. -/
structure Unseen (u : UnitId) {α : Type} (c : State → α) : Prop where
  eq : ∀ {G s}, UnitEffect (otherUnit u) G → s.unitsOverlap = false → c (G s) = c s

/-- An operation that changes what its unit may change, and does the same whatever the other unit did before, in the outcome as
well as in the effect. -/
structure UnitOp (u : UnitId) (m : State → Out) : Prop where
  effect : ∀ {s t}, m s = .next t → ∃ F, UnitEffect u F ∧ F s = t
  blind : ∀ {G s}, UnitEffect (otherUnit u) G → s.unitsOverlap = false → m (G s) = mapNext G (m s)

/-- An operation of each unit, one after the other, in either order. -/
theorem UnitOp.comm {m n : State → Out} (hm : UnitOp .enc m) (hn : UnitOp .dec n) {s t w : State}
    (hov : s.unitsOverlap = false) (ht : m s = .next t) (hw : n t = .next w) : ∃ t', n s = .next t' ∧ m t' = .next w := by
  obtain ⟨F, hF, rfl⟩ := hm.effect ht
  obtain ⟨t', ht', rfl⟩ := mapNext_eq_next.1 ((hn.blind hF hov).symm.trans hw)
  obtain ⟨G, hG, rfl⟩ := hn.effect ht'
  refine ⟨_, ht', ?_⟩
  rw [hm.blind hG hov, ht, mapNext_next, hF.comm hG hov]

section
variable {u : UnitId} {α : Type}

theorem Unseen.regs (f : UnitRegs u → α) : Unseen u fun s => f (s.regs u) :=
  ⟨fun hG _ => congrArg f (hG.regs_eq _)⟩

theorem Unseen.map {β : Type} {c : State → α} (hc : Unseen u c) (f : α → β) : Unseen u fun s => f (c s) :=
  ⟨fun hG hov => congrArg f (hc.eq hG hov)⟩

theorem Unseen.holds {sp : Space} {k : State → Nat} (hk : Unseen u k) : Unseen u fun s => s.holds sp (k s) :=
  ⟨fun hG hov => by simp only [hk.eq hG hov, hG.holds_eq]⟩

theorem Unseen.byteAt {k : State → Nat} (hk : Unseen u k) : Unseen u fun s => s.byteAt (inSpace u) (k s) :=
  ⟨fun hG hov => by simp only [hk.eq hG hov, hG.byteAt_inSpace_eq hov]⟩

theorem Unseen.eq_true {c : State → Bool} (hc : Unseen u c) : Unseen u fun s => c s = true :=
  hc.map (· = true)

theorem UnitOp.fault (f : Fault) : UnitOp u fun _ => .fault f := ⟨nofun, fun _ _ => rfl⟩

theorem UnitOp.refused (r : Refusal) : UnitOp u fun _ => .refused r := ⟨nofun, fun _ _ => rfl⟩

theorem UnitOp.skip : UnitOp u .next := ⟨fun h => ⟨_, .nothing, by injection h⟩, fun _ _ => rfl⟩

/-- A register write is an operation of the unit, if what is written does not depend on the other. -/
theorem UnitOp.setRegs {r : State → UnitRegs u} (hr : Unseen u r) : UnitOp u fun s => .next (s.setRegs u (r s)) where
  effect h := ⟨_, .regs _, by injection h⟩
  blind {G s} hG hov := by
    rw [hr.eq hG hov, mapNext_next]
    exact congrArg _ ((UnitEffect.regs (r s)).comm hG hov)

/-- One operation for each value of a reading that does not see the other unit. -/
theorem UnitOp.of_cases {m : State → Out} {c : State → α} (hc : Unseen u c)
    (h : ∀ x, ∃ n, UnitOp u n ∧ ∀ s, c s = x → m s = n s) : UnitOp u m where
  effect {s t} hm := by
    obtain ⟨n, hn, heq⟩ := h (c s)
    exact hn.effect ((heq s rfl).symm.trans hm)
  blind {G s} hG hov := by
    obtain ⟨n, hn, heq⟩ := h (c s)
    rw [heq s rfl, heq (G s) (hc.eq hG hov), hn.blind hG hov]

/-- What does not see the other unit may choose what is done. -/
theorem UnitOp.choose {c : State → α} {f : α → State → Out} (hc : Unseen u c) (hf : ∀ x, UnitOp u (f x)) :
    UnitOp u fun s => f (c s) s :=
  .of_cases hc fun x => ⟨f x, hf x, by rintro s rfl; rfl⟩

theorem UnitOp.ite {c : State → Prop} [DecidablePred c] {m n : State → Out} (hc : Unseen u c) (hm : UnitOp u m)
    (hn : UnitOp u n) : UnitOp u fun s => if c s then m s else n s where
  effect {s t} h := by
    split at h
    · exact hm.effect h
    · exact hn.effect h
  blind {G s} hG hov := by
    simp only [hc.eq hG hov]
    split
    · exact hm.blind hG hov
    · exact hn.blind hG hov

theorem UnitOp.andThen {m n : State → Out} (hm : UnitOp u m) (hn : UnitOp u n) :
    UnitOp u fun s => Machine.andThen (m s) n where
  effect h := by
    obtain ⟨t, ht, h⟩ := andThen_eq_next.1 h
    obtain ⟨F, hF, rfl⟩ := hm.effect ht
    obtain ⟨F', hF', rfl⟩ := hn.effect h
    exact ⟨_, hF.andThen hF', rfl⟩
  blind {G s} hG hov := by
    rw [hm.blind hG hov]
    cases ho : m s with
    | next t =>
      obtain ⟨F, hF, rfl⟩ := hm.effect ho
      exact hn.blind hG ((hF.unitsOverlap_eq s).trans hov)
    | fault f => rfl
    | refused r => rfl

/-- A read of the unit's input, its byte handed on. -/
theorem UnitOp.memRead {k : State → Nat} {f : Byte → State → Out} (hk : Unseen u k) (hf : ∀ v, UnitOp u (f v)) :
    UnitOp u fun s => Machine.memRead (inSpace u) (k s) s fun v => f v s :=
  .ite hk.holds.eq_true (.choose hk.byteAt hf) (.refused _)

/-- A write into the unit's output, followed by an operation of the unit. -/
theorem UnitOp.memWrite (k : Nat) (v : Byte) {f : State → Out} (hf : UnitOp u f) :
    UnitOp u fun s => Machine.memWrite (outSpace u) k v s f where
  effect h := by
    obtain ⟨-, h⟩ := memWrite_eq_next.1 h
    obtain ⟨F, hF, rfl⟩ := hf.effect h
    exact ⟨_, (UnitEffect.byte _ _).andThen hF, rfl⟩
  blind {G s} hG hov := by
    have hset : (G s).setByte (outSpace u) k v = G (s.setByte (outSpace u) k v) := (UnitEffect.byte k v).comm hG hov
    have hov' : (s.setByte (outSpace u) k v).unitsOverlap = false := (State.unitsOverlap_congr (by simp)).trans hov
    simp only [Machine.memWrite, hG.holds_eq, hset]
    split
    · exact hf.blind hG hov'
    · rfl

/-- The placement of the unit's buffers is supported or not, whatever the other unit does (R231). -/
theorem Unseen.unsupported : Unseen u fun s => s.unsupported u where
  eq {G s} hG hov := by
    simp only [State.unsupported, (hG.unitsOverlap_eq s).trans hov, hov, State.overlap_congr (hG.bufMap_eq s), Bool.and_false]

theorem Unseen.lenInBound (n : Nat) : Unseen u fun s => Config.lenInBound s.lenW u n :=
  ⟨fun hG _ => congrArg (Config.lenInBound · u n) (hG.lenW_eq _)⟩

end

end Sys2Proof.Machine
end

section
/-! PROOFS. Every operation of the encoder and of the decoder (O46; 20_memory.md R62, 60_exceptions.md R204) is put together from
readings that the other unit cannot change, writes of the unit's own registers and writes into its own `OUT` buffer. -/

namespace Sys2Proof.Machine

/-! ## The encoder -/

theorem Unseen.of_enc {α : Type} (f : EncRegs → α) : Unseen .enc fun s => f s.enc := Unseen.regs (u := .enc) f

theorem Unseen.encBusy : Unseen .enc Machine.encBusy := .of_enc fun r => r.st == .run

theorem Unseen.encM : Unseen .enc State.encM := .of_enc fun r => Machine.encM r.len

theorem Unseen.encSel : Unseen .enc State.encSel := .of_enc fun r => r.o % 4

theorem Unseen.encBase : Unseen .enc State.encBase := .of_enc fun r => 3 * (r.o / 4)

theorem Unseen.encRem : Unseen .enc State.encRem := .of_enc fun r => min 3 (r.len - 3 * (r.o / 4))

theorem Unseen.encStepAt (k : Nat) : Unseen .enc fun s => s.encStepAt k :=
  .of_enc fun r => r.st == .run && decide (r.o < Machine.encM r.len) && r.o % 4 == k

theorem Unseen.encSelect : Unseen .enc State.encSelect where
  eq hG hov := by
    simp only [State.encSelect, hG.enc_eq, Unseen.encM.eq hG hov, Unseen.encSel.eq hG hov, Unseen.encRem.eq hG hov]

/-- The group fetch (R120). -/
theorem UnitOp.readEncGroup {f : Byte → Byte → Byte → State → Out} (hf : ∀ b0 b1 b2, UnitOp .enc (f b0 b1 b2)) :
    UnitOp .enc fun s => Machine.readEncGroup s fun b0 b1 b2 => f b0 b1 b2 s := by
  have hbase (k : Nat) : Unseen .enc fun s => s.encBase + k := Unseen.encBase.map (· + k)
  have hrem (p : Nat → Prop) : Unseen .enc fun s => p s.encRem := Unseen.encRem.map p
  unfold Machine.readEncGroup readB0 readB1 readB2
  exact .memRead .encBase fun b0 => .ite (hrem (2 ≤ ·))
    (.memRead (hbase 1) fun b1 => .ite (hrem (· = 3)) (.memRead (hbase 2) fun b2 => hf b0 b1 b2) (hf b0 b1 0))
    (.ite (hrem (· = 3)) (.memRead (hbase 2) fun b2 => hf b0 0 b2) (hf b0 0 0))

/-- The write of the encoder's steps (R131). -/
theorem UnitOp.encPut (ch : Byte) : UnitOp .enc (Machine.encPut ch) :=
  .of_cases (.of_enc fun r => r.o) fun o =>
    ⟨_, .memWrite o ch (.setRegs (u := .enc) (.of_enc fun r => { r with o := o + 1 })), by rintro s rfl; rfl⟩

/-- Each micro-operation fetches its group and writes a character, where its condition holds (R122 to R127). -/
theorem UnitOp.execEncOp (op : EncOp) : UnitOp .enc (Machine.execEncOp op) := by
  have hat (k : Nat) (p : Nat → Bool) : Unseen .enc fun s => (s.encStepAt k && p s.encRem) = true :=
    .eq_true ⟨fun hG hov => congrArg₂ and ((Unseen.encStepAt k).eq hG hov) ((Unseen.encRem.map p).eq hG hov)⟩
  cases op with
  | sym0 => exact .ite (Unseen.encStepAt 0).eq_true (.readEncGroup fun _ _ _ => .encPut _) (.fault _)
  | sym1 => exact .ite (Unseen.encStepAt 1).eq_true (.readEncGroup fun _ _ _ => .encPut _) (.fault _)
  | sym2 => exact .ite (hat 2 fun m => decide (2 ≤ m)) (.readEncGroup fun _ _ _ => .encPut _) (.fault _)
  | sym3 => exact .ite (hat 3 (· == 3)) (.readEncGroup fun _ _ _ => .encPut _) (.fault _)
  | pad2 => exact .ite (hat 2 (· == 1)) (.readEncGroup fun _ _ _ => .encPut _) (.fault _)
  | pad3 => exact .ite (hat 3 fun m => decide (m ≤ 2)) (.readEncGroup fun _ _ _ => .encPut _) (.fault _)
  | finish =>
    exact .ite (.of_enc fun r => (r.st == .run && r.o == Machine.encM r.len) = true)
      (.setRegs (u := .enc) (.of_enc fun r => { r with outLen := r.o, st := .done })) (.fault _)

theorem UnitOp.encStep : UnitOp .enc Machine.encStep :=
  .ite Unseen.unsupported.eq_true (.refused _) <| .of_cases
    (c := fun s => selectOf encSelectTable s.encSelect) (Unseen.encSelect.map _) fun x => by
      cases x with
      | some op => exact ⟨_, .execEncOp op, fun s h => by simp only [h]⟩
      | none => exact ⟨_, .fault .noSuchPattern, fun s h => by simp only [h]⟩

theorem UnitOp.encRun (k : Nat) : UnitOp .enc (Machine.encRun k) := by
  induction k with
  | zero => exact .skip
  | succ k ih => exact .ite Unseen.encBusy.eq_true (.andThen .encStep ih) .skip

theorem UnitOp.execEncStart (len : Nat) : UnitOp .enc (Machine.execEncStart len) :=
  .ite Unseen.encBusy.eq_true .skip <| .ite Unseen.unsupported.eq_true (.refused _) <|
    .ite (Unseen.lenInBound len).eq_true (.setRegs (u := .enc) (.of_enc fun _ => EncRegs.started len)) (.refused _)

theorem UnitOp.execEncodeOp (len : Nat) : UnitOp .enc (Machine.execEncodeOp len) :=
  .andThen (.execEncStart len) <| .choose (c := encBudget) (f := Machine.encRun)
    (.of_enc fun r => Machine.encM r.len - r.o + 1) .encRun

/-- Every operation of the encoder is one of its unit. -/
theorem OfEncoder.unitOp {i : Instr} (h : OfEncoder i) : UnitOp .enc (exec i) := by
  rcases h with hmicro | ⟨n, rfl | rfl⟩
  · obtain ⟨op, rfl⟩ : ∃ op : EncOp, i = op.instr := by
      simp only [encSide, List.mem_cons, List.not_mem_nil, or_false] at hmicro
      rcases hmicro with rfl | rfl | rfl | rfl | rfl | rfl | rfl
      exacts [⟨.sym0, rfl⟩, ⟨.sym1, rfl⟩, ⟨.sym2, rfl⟩, ⟨.sym3, rfl⟩, ⟨.pad2, rfl⟩, ⟨.pad3, rfl⟩, ⟨.finish, rfl⟩]
    rw [funext (exec_encOp op)]
    exact .execEncOp op
  · exact .execEncStart n
  · exact .execEncodeOp n

/-! ## The decoder -/

theorem Unseen.of_dec {α : Type} (f : DecRegs → α) : Unseen .dec fun s => f s.dec := Unseen.regs (u := .dec) f

theorem Unseen.decBusy : Unseen .dec Machine.decBusy :=
  .of_dec fun r => r.st == .check || r.st == .scan || r.st == .repack

theorem Unseen.decCls {k : State → Nat} (hk : Unseen .dec k) : Unseen .dec fun s => s.decCls (k s) :=
  (Unseen.byteAt (u := .dec) hk).map cls

theorem Unseen.holdsGroup : Unseen .dec State.holdsGroup where
  eq hG _ := by simp only [State.holdsGroup, hG.holds_eq, hG.dec_eq]

theorem Unseen.decWord : Unseen .dec Machine.decWord where
  eq {G s} hG hov := by
    have hcls (k : Nat) : (G s).decCls k = s.decCls k := (Unseen.decCls (.of_dec fun _ => k)).eq hG hov
    unfold Machine.decWord State.decNG
    rw [hG.dec_eq, hG.holds_eq, Unseen.holdsGroup.eq hG hov, hcls, hcls, hcls]

theorem Unseen.unitWord_dec : Unseen .dec (unitWord .dec) where
  eq {G s} hG hov := by
    have hsup : (G s).unsupported .dec = s.unsupported .dec := Unseen.unsupported.eq hG hov
    unfold unitWord busy
    rw [Unseen.decBusy.eq hG hov, hsup, Unseen.decWord.eq hG hov]

/-- A write of the decoder's registers. -/
theorem UnitOp.setDec (f : DecRegs → DecRegs) : UnitOp .dec fun s => .next (s.setDec (f s.dec)) :=
  .setRegs (u := .dec) (.of_dec f)

/-- The read of the next character (R142). -/
theorem UnitOp.readScan {f : Cls → State → Out} (hf : ∀ k, UnitOp .dec (f k)) :
    UnitOp .dec fun s => Machine.readScan s fun k => f k s :=
  .memRead (.of_dec fun r => r.i) fun c => hf (cls c)

/-- The read of the current group (R170). -/
theorem UnitOp.readGroup {f : Cls → Cls → Cls → Cls → State → Out} (hf : ∀ k0 k1 k2 k3, UnitOp .dec (f k0 k1 k2 k3)) :
    UnitOp .dec fun s => Machine.readGroup s fun k0 k1 k2 k3 => f k0 k1 k2 k3 s :=
  .memRead (.of_dec fun r => 4 * r.g) fun c0 => .memRead (.of_dec fun r => 4 * r.g + 1) fun c1 =>
    .memRead (.of_dec fun r => 4 * r.g + 2) fun c2 => .memRead (.of_dec fun r => 4 * r.g + 3) fun c3 =>
      hf (cls c0) (cls c1) (cls c2) (cls c3)

theorem UnitOp.execDecCheck : UnitOp .dec Machine.execDecCheck :=
  .ite (.of_dec fun r => (r.st == .check) = true)
    (.ite (.of_dec fun r => r.len = 0) (.setDec fun r => { r with st := .done }) <|
      .ite (.of_dec fun r => r.len % 4 ≠ 0) (.setDec (·.raised .lengthError)) (.setDec fun r => { r with st := .scan }))
    (.fault _)

theorem UnitOp.acceptPad : UnitOp .dec Machine.acceptPad :=
  .of_cases (.of_dec fun r => r) fun r => by
    by_cases hi : r.i + 2 < r.len
    · exact ⟨_, .setDec fun r => r.raised .invalidPaddingError, by rintro s rfl; exact if_pos hi⟩
    · by_cases hp : r.pad.val + 1 < 3
      · exact ⟨_, .setDec fun _ => { r with tailbad := tailbadAfterPad r, pad := ⟨r.pad.val + 1, hp⟩, i := r.i + 1 },
          by rintro s rfl; exact (if_neg hi).trans (dif_pos hp)⟩
      · exact ⟨_, .fault .reservedPad, by rintro s rfl; exact (if_neg hi).trans (dif_neg hp)⟩

/-- Each micro-operation of the scan reads the next character and writes registers (R143 to R146). -/
theorem UnitOp.execScanOp (op : ScanOp) : UnitOp .dec (Machine.execScanOp op) := by
  have hscanning : Unseen .dec fun s => s.decScanning = true := .of_dec fun r => (r.st == .scan && decide (r.i < r.len)) = true
  cases op with
  | val =>
    refine .ite hscanning (.readScan fun k => ?_) (.fault _)
    cases k with
    | val v =>
      simp only [acceptVal_eq_setDec]
      exact .setDec fun r => r.scanned (.val v)
    | pad => exact .fault _
    | inv => exact .fault _
  | pad =>
    refine .ite hscanning (.readScan fun k => ?_) (.fault _)
    cases k with
    | val v => exact .fault _
    | pad => exact .acceptPad
    | inv => exact .fault _
  | inv =>
    refine .ite hscanning (.readScan fun k => ?_) (.fault _)
    cases k with
    | val v => exact .fault _
    | pad => exact .fault _
    | inv => exact .setDec fun r => r.raised .invalidCharacterError
  | fin =>
    exact .ite (.of_dec fun r => (r.st == .scan && r.i == r.len) = true)
      (.ite (.of_dec fun r => r.tailbad = true) (.setDec (·.raised .invalidPaddingError))
        (.setDec fun r => { r with st := .repack })) (.fault _)

theorem UnitOp.nextGroup (g : Nat) : UnitOp .dec (Machine.nextGroup g) := .setDec fun r => { r with g := g + 1 }

theorem UnitOp.badGroup (v : BitVec 3) (k2 k3 : Cls) : UnitOp .dec fun _ => Machine.badGroup v k2 k3 := by
  unfold Machine.badGroup
  split
  · exact .fault _
  · exact .fault _

/-- Each micro-operation of the repack reads the current group and writes its bytes, or ends the operation (R172 to R175). -/
theorem UnitOp.execRepackOp (op : RepackOp) : UnitOp .dec (Machine.execRepackOp op) := by
  have hrepacking : Unseen .dec fun s => s.decRepacking = true :=
    .of_dec fun r => (r.st == .repack && decide (r.g < r.len / 4)) = true
  have hg : Unseen .dec fun s => s.dec.g := .of_dec fun r => r.g
  cases op with
  | g3 =>
    refine .ite hrepacking (.readGroup fun k0 k1 k2 k3 => ?_) (.fault _)
    split
    · next v0 v1 v2 v3 =>
      exact .of_cases hg fun g => ⟨_, .memWrite (3 * g) (byte0 v0 v1) <| .memWrite (3 * g + 1) (byte1 v1 v2) <|
        .memWrite (3 * g + 2) (byte2 v2 v3) (.nextGroup g), by rintro s rfl; rfl⟩
    · exact .badGroup _ _ _
  | g2 =>
    refine .ite hrepacking (.readGroup fun k0 k1 k2 k3 => ?_) (.fault _)
    split
    · next v0 v1 v2 =>
      exact .of_cases hg fun g => ⟨_, .memWrite (3 * g) (byte0 v0 v1) <| .memWrite (3 * g + 1) (byte1 v1 v2)
        (.nextGroup g), by rintro s rfl; rfl⟩
    · exact .badGroup _ _ _
  | g1 =>
    refine .ite hrepacking (.readGroup fun k0 k1 k2 k3 => ?_) (.fault _)
    split
    · next v0 v1 =>
      exact .of_cases hg fun g => ⟨_, .memWrite (3 * g) (byte0 v0 v1) (.nextGroup g), by rintro s rfl; rfl⟩
    · exact .badGroup _ _ _
  | fin =>
    exact .ite (.of_dec fun r => (r.st == .repack && r.g == r.len / 4) = true) (.setDec DecRegs.finished) (.fault _)

theorem UnitOp.execDecWord (p : PortWord) : UnitOp .dec (Machine.execDecWord p) := by
  cases p with
  | decCheck => exact .execDecCheck
  | scanSel v =>
    unfold Machine.execDecWord
    dsimp only
    cases selectOf scanSelectTable v with
    | some op => exact .execScanOp op
    | none => exact .fault _
  | repackSel v =>
    unfold Machine.execDecWord
    dsimp only
    cases selectOf repackSelectTable v with
    | some op => exact .execRepackOp op
    | none => exact .fault _
  | _ => exact .fault .noSuchPattern

theorem UnitOp.decStep : UnitOp .dec Machine.decStep :=
  .of_cases Unseen.unitWord_dec fun w => by
    unfold Machine.decStep
    match w with
    | .ok (some p) => exact ⟨_, .execDecWord p, fun s h => by simp only [h]⟩
    | .ok none => exact ⟨_, .skip, fun s h => by simp only [h]⟩
    | .error r => exact ⟨_, .refused r, fun s h => by simp only [h]⟩

theorem UnitOp.decRun (k : Nat) : UnitOp .dec (Machine.decRun k) := by
  induction k with
  | zero => exact .skip
  | succ k ih => exact .ite Unseen.decBusy.eq_true (.andThen .decStep ih) .skip

theorem UnitOp.execDecStart (len : Nat) : UnitOp .dec (Machine.execDecStart len) :=
  .ite Unseen.decBusy.eq_true .skip <| .ite Unseen.unsupported.eq_true (.refused _) <|
    .ite (Unseen.lenInBound len).eq_true (.setDec fun _ => DecRegs.started len) (.refused _)

theorem UnitOp.execDecodeOp (len : Nat) : UnitOp .dec (Machine.execDecodeOp len) :=
  .andThen (.execDecStart len) <| .choose (c := decBudget) (f := Machine.decRun)
    (.of_dec fun r => 1 + (r.len + 1) + (r.len / 4 + 1)) .decRun

/-- Every operation of the decoder is one of its unit. -/
theorem OfDecoder.unitOp {i : Instr} (h : OfDecoder i) : UnitOp .dec (exec i) := by
  rcases h with hmicro | ⟨n, rfl | rfl⟩
  · simp only [decSide, List.mem_cons, List.not_mem_nil, or_false] at hmicro
    rcases hmicro with rfl | rfl | rfl | rfl | rfl | rfl | rfl | rfl | rfl
    exacts [.execDecCheck, .execScanOp .val, .execScanOp .pad, .execScanOp .inv, .execScanOp .fin, .execRepackOp .g3,
      .execRepackOp .g2, .execRepackOp .g1, .execRepackOp .fin]
  · exact .execDecStart n
  · exact .execDecodeOp n

/-- Settles O46: an operation of one unit does the same before and after one of the other, and their effects commute. -/
theorem unitsAreIndependent : Obligations.UnitsAreIndependent := by
  unfold Obligations.UnitsAreIndependent
  exact fun e d s t u he hd hov ht hu => he.unitOp.comm hd.unitOp hov ht hu

/-- O46 says something of a state in which both units run: a step of each, in either order. -/
theorem bothRun_eitherOrder : ∃ t t' u, exec .encSym1 Tests.bothRun = .next t ∧ exec .decScanVal t = .next u ∧
    exec .decScanVal Tests.bothRun = .next t' ∧ exec .encSym1 t' = .next u := by
  obtain ⟨hov, he, hd, t, u, ht, hu⟩ := Tests.witness_UnitsAreIndependent
  obtain ⟨t', ht', hu'⟩ := unitsAreIndependent _ _ _ t u he hd hov ht hu
  exact ⟨t, t', u, ht, hu, ht', hu'⟩

end Sys2Proof.Machine
end

section
/-! PROOFS. What no operation of the table changes (O47; 20_memory.md R57, R58, 10_state.md R33, R34): the input buffers, but for
bytes that share an address with an `OUT` buffer (70_reset_and_hazards.md R221, R231), the parameters, and which entries exist. -/

namespace Sys2Proof.Machine

/-! ## The input buffers and the parameters as before -/

/-- The input buffers, the parameters and the entries that exist are as before: what O47 says of an operation. -/
structure InputKept (s t : State) : Prop where
  encIn : t.encIn = s.encIn
  decIn : t.decIn = s.decIn
  byteAt : ∀ u k, (∀ v j, s.sameEntry (outSpace v) j (inSpace u) k = false) →
    t.byteAt (inSpace u) k = s.byteAt (inSpace u) k
  lenW : t.lenW = s.lenW
  csrMap : t.csrMap = s.csrMap
  bufMap : t.bufMap = s.bufMap
  holds : ∀ sp k, t.holds sp k = s.holds sp k

theorem State.sameEntry_congr {s t : State} (h : t.bufMap = s.bufMap) (sp : Space) (k : Nat) (sp₂ : Space) (j : Nat) :
    t.sameEntry sp k sp₂ j = s.sameEntry sp k sp₂ j := by
  simp only [State.sameEntry, State.addrOf_congr h]

theorem InputKept.refl (s : State) : InputKept s s := ⟨rfl, rfl, fun _ _ _ => rfl, rfl, rfl, rfl, fun _ _ => rfl⟩

theorem InputKept.trans {s t w : State} (h : InputKept s t) (h' : InputKept t w) : InputKept s w where
  encIn := h'.encIn.trans h.encIn
  decIn := h'.decIn.trans h.decIn
  byteAt u k hk :=
    (h'.byteAt u k fun v j => (State.sameEntry_congr h.bufMap ..).trans (hk v j)).trans (h.byteAt u k hk)
  lenW := h'.lenW.trans h.lenW
  csrMap := h'.csrMap.trans h.csrMap
  bufMap := h'.bufMap.trans h.bufMap
  holds sp k := (h'.holds sp k).trans (h.holds sp k)

/-! ## The two units -/

theorem InputKept.setRegs (s : State) (u : UnitId) (r : UnitRegs u) : InputKept s (s.setRegs u r) := by
  constructor <;> simp

/-- A write into an `OUT` buffer inside the block, or into the system's memory, is none into an `IN` buffer of the block. -/
theorem State.setByte_outSpace_in (s : State) (u : UnitId) (k : Nat) (v : Byte) :
    (s.setByte (outSpace u) k v).encIn = s.encIn ∧ (s.setByte (outSpace u) k v).decIn = s.decIn := by
  cases ha : s.addrOf (outSpace u) k with
  | some a => rw [State.setByte_of_addrOf ha]; exact ⟨rfl, rfl⟩
  | none =>
    rw [State.setByte_of_no_addr ha]
    cases u <;> exact ⟨rfl, rfl⟩

theorem InputKept.setByte (s : State) (u : UnitId) (k : Nat) (v : Byte) : InputKept s (s.setByte (outSpace u) k v) where
  encIn := (s.setByte_outSpace_in u k v).1
  decIn := (s.setByte_outSpace_in u k v).2
  byteAt _ _ hk := State.byteAt_setByte_of_ne s (hk u k) v
  lenW := by simp
  csrMap := by simp
  bufMap := by simp
  holds := by simp

/-- An effect of a unit keeps the input: registers and bytes of `OUT` are all it writes. -/
theorem UnitEffect.inputKept {u : UnitId} {F : State → State} (h : UnitEffect u F) (s : State) : InputKept s (F s) :=
  h.induction (P := InputKept s) (fun t r ht => ht.trans (.setRegs t u r)) (fun t k v ht => ht.trans (.setByte t u k v))
    (.refl s)

theorem UnitOp.inputKept {u : UnitId} {m : State → Out} (hm : UnitOp u m) {s t : State} (h : m s = .next t) :
    InputKept s t := by
  obtain ⟨F, hF, rfl⟩ := hm.effect h
  exact hF.inputKept s

/-! ## `RESET` -/

/-- An address in the window of a buffer is that of an entry of it. -/
theorem State.exists_addrOf_of_placedIn {s : State} {sp : Space} {a : Nat} (h : s.placedIn sp a = true) :
    ∃ k, s.addrOf sp k = some a := by
  unfold State.placedIn at h
  unfold State.addrOf
  cases hw : s.bufMap.window sp with
  | none => simp [hw] at h
  | some w =>
    simp only [hw, Bool.and_eq_true, decide_eq_true_eq] at h
    exact ⟨a - w.first, by dsimp only; rw [if_pos (by omega), Nat.add_sub_cancel' h.1]⟩

/-- Where an entry is one with no entry of an `OUT` buffer, no `OUT` buffer stands at its address. -/
theorem State.outPlaced_eq_false {s : State} {sp : Space} {k a : Nat} (ha : s.addrOf sp k = some a)
    (h : ∀ v j, s.sameEntry (outSpace v) j sp k = false) : s.outPlaced a = false := by
  have hplaced (v : UnitId) : s.placedIn (outSpace v) a = false := by
    by_contra hp
    obtain ⟨j, hj⟩ := State.exists_addrOf_of_placedIn (Bool.eq_true_of_not_eq_false hp)
    have hone := h v j
    simp [State.sameEntry, hj, ha] at hone
  exact Bool.or_eq_false_iff.2 ⟨hplaced .enc, hplaced .dec⟩

/-- `RESET` leaves `U.IN` untouched (R221), but for bytes at an address of an `OUT` buffer (log 4). -/
theorem resetState_byteAt_inSpace {s : State} {u : UnitId} {k : Nat}
    (h : ∀ v j, s.sameEntry (outSpace v) j (inSpace u) k = false) :
    (resetState s).byteAt (inSpace u) k = s.byteAt (inSpace u) k := by
  have haddr : (resetState s).addrOf (inSpace u) k = s.addrOf (inSpace u) k := rfl
  unfold State.byteAt
  rw [haddr]
  cases ha : s.addrOf (inSpace u) k with
  | some a => exact resetState_sysByte (State.outPlaced_eq_false ha h)
  | none => cases u <;> rfl

theorem resetState_holds (s : State) (sp : Space) (k : Nat) : (resetState s).holds sp k = s.holds sp k := by
  cases sp <;> rfl

theorem InputKept.reset (s : State) : InputKept s (resetState s) :=
  ⟨rfl, rfl, fun _ _ h => resetState_byteAt_inSpace h, rfl, rfl, rfl, resetState_holds s⟩

/-! ## Every row of the table -/

theorem InputKept.lutData (s : State) (e : Byte) : InputKept s { s with lutData := e } :=
  ⟨rfl, rfl, fun _ _ _ => rfl, rfl, rfl, rfl, fun sp _ => by cases sp <;> rfl⟩

/-- A row of the operation table is an operation of one unit, `RESET`, or a stand-alone read of a table entry. -/
theorem exec_cases (i : Instr) :
    OfEncoder i ∨ OfDecoder i ∨ i = .reset ∨ ∃ e : Byte, ∀ s, exec i s = answerLut e s := by
  cases i with
  | encStart n => exact .inl (.inr ⟨n, .inl rfl⟩)
  | encodeOp n => exact .inl (.inr ⟨n, .inr rfl⟩)
  | encSym0 | encSym1 | encSym2 | encSym3 | encPad2 | encPad3 | encFinish => exact .inl (.inl (by simp [encSide]))
  | decStart n => exact .inr (.inl (.inr ⟨n, .inl rfl⟩))
  | decodeOp n => exact .inr (.inl (.inr ⟨n, .inr rfl⟩))
  | decCheck | decScanVal | decScanPad | decScanInv | decScanEnd | decRepackG3 | decRepackG2 | decRepackG1 | decFinish =>
    exact .inr (.inl (.inl (by simp [decSide])))
  | reset => exact .inr (.inr (.inl rfl))
  | _ => exact .inr (.inr (.inr ⟨_, fun s => rfl⟩))

theorem inputKept_of_exec {i : Instr} {s t : State} (h : exec i s = .next t) : InputKept s t := by
  rcases exec_cases i with henc | hdec | rfl | ⟨e, hlut⟩
  · exact henc.unitOp.inputKept h
  · exact hdec.unitOp.inputKept h
  · obtain rfl : resetState s = t := Host.Outcome.next.inj h
    exact .reset s
  · obtain rfl := answerLut_eq_next.1 ((hlut s).symm.trans h)
    exact .lutData s e

/-- Settles O47: the units write registers and `OUT` only, `RESET` unlists `OUT` only, and a table read answers in `lutData`. -/
theorem noOperationWritesAnInputBuffer : Obligations.NoOperationWritesAnInputBuffer := by
  unfold Obligations.NoOperationWritesAnInputBuffer
  intro i s t h
  obtain ⟨hei, hdi, hbyte, hw, hcsr, hbuf, hheld⟩ := inputKept_of_exec h
  exact ⟨hei, hdi, hbyte, hw, hcsr, hbuf, hheld⟩

end Sys2Proof.Machine
end

section
/-! PROOFS. The host's write of `U.IN` (O52; 20_memory.md R58, 40_commands.md R100, 70_reset_and_hazards.md R228, R231): what it
is by index and by address, when it is refused, and the one byte that it writes (log 2, log 8, log 18). -/

namespace Sys2Proof.Machine

/-! ## One byte written -/

theorem entries_one {s : State} {sp sp₂ : Space} {k j : Nat} : entries s sp k 1 sp₂ j ↔ s.sameEntry sp k sp₂ j = true := by
  constructor
  · rintro ⟨i, hlo, hhi, h⟩
    obtain rfl : i = k := by omega
    exact h
  · exact fun h => ⟨k, Nat.le_refl k, Nat.lt_succ_self k, h⟩

/-- A write changes the bytes of its entry only, and those that share its address (R231). -/
theorem bytesKept_setByte (s : State) (sp : Space) (k : Nat) (v : Byte) :
    BytesKept s (s.setByte sp k v) (entries s sp k 1) := by
  refine ⟨fun sp₂ j hne => ?_, fun a hfree => ?_, fun sp₂ j => State.holds_setByte ..⟩
  · exact State.byteAt_setByte_of_ne s (Bool.eq_false_of_not_eq_true fun h => hne (entries_one.2 h)) v
  · refine State.sysByte_setByte_of_ne s (fun ha => ?_) v
    exact Bool.false_ne_true ((hfree sp).symm.trans (State.placedIn_of_addrOf ha))

theorem modelKept_setByte (s : State) (sp : Space) (k : Nat) (v : Byte) : ModelKept s (s.setByte sp k v) := by
  simp [ModelKept]

/-! ## The host's write -/

/-- By address the host reaches the only `IN` entry placed there (R58, log 18). -/
theorem busWritten_of_inEntry {s : State} {u : UnitId} {a k : Nat} (h : s.writableAt a = [.entry (inSpace u) k]) (v : Byte) :
    busWritten a v.toNat s = .other (hostWriteIn u k v s) := by
  rw [← hostBusWriteIn_toNat u k a v s]
  cases u <;> simp only [busWritten, h, inSpace]

/-- The input write that a step takes, by index or by address, in the state less the input. -/
theorem step_of_inputWrite {s : State} {u : UnitId} {k : Nat} {v : Byte} {rest : List Input}
    (h : s.agenda = .writeIn u k v :: rest ∨
      ∃ a, s.agenda = .busWrite a v.toNat :: rest ∧ s.writableAt a = [.entry (inSpace u) k]) :
    step s = hostWriteIn u k v { s with agenda := rest } := by
  rcases h with hs | ⟨a, hs, hplaced⟩
  · exact step_of_input_other hs rfl
  · exact step_of_input_other hs (busWritten_of_inEntry (s := { s with agenda := rest }) hplaced v)

/-- While the unit is busy the write has no meaning (R228, U7). -/
theorem hostWriteIn_of_busy {u : UnitId} {k : Nat} {v : Byte} {s : State} (hb : busy u s = true) :
    hostWriteIn u k v s = .refused (.inputWrittenWhileBusy u) := by
  simp [hostWriteIn, hb]

/-- Nor has one of a byte that the busy other unit has in its `IN` (R228, R231). -/
theorem hostWriteIn_of_input_in_use {u : UnitId} {k : Nat} {v : Byte} {s : State} (hb : busy u s = false)
    (hin : (busy (otherUnit u) s && s.touches (inSpace u) k (inSpace (otherUnit u))) = true) :
    hostWriteIn u k v s = .refused (.inputWrittenWhileBusy (otherUnit u)) := by
  rw [hostWriteIn, hb, hin]
  rfl

/-- Nor one of a byte that the busy other unit has in its `OUT` (R231, U12). -/
theorem hostWriteIn_of_output_in_use {u : UnitId} {k : Nat} {v : Byte} {s : State} (hb : busy u s = false)
    (hin : (busy (otherUnit u) s && s.touches (inSpace u) k (inSpace (otherUnit u))) = false)
    (hout : (busy (otherUnit u) s && s.touches (inSpace u) k (outSpace (otherUnit u))) = true) :
    hostWriteIn u k v s = .refused (.overlappingBuffers (otherUnit u)) := by
  rw [hostWriteIn, hb, hin, hout]
  rfl

/-- Settles O52: the step is the host's write of the entry, which is refused in three ways or writes one byte. -/
theorem hostWritesTheInputBuffer : Obligations.HostWritesTheInputBuffer := by
  unfold Obligations.HostWritesTheInputBuffer
  intro s u k v rest hwrite used
  rw [step_of_inputWrite hwrite]
  refine ⟨fun hb => ?busy, fun hb hin => ?inputInUse, fun hb hin hout => ?outputInUse, fun hb hin hout hheld => ?written⟩
  case busy => exact hostWriteIn_of_busy hb
  case inputInUse => exact hostWriteIn_of_input_in_use hb hin
  case outputInUse => exact hostWriteIn_of_output_in_use hb hin hout
  case written =>
    refine ⟨_, hostWriteIn_eq_next.2 ⟨hb, hin, hout, hheld, rfl⟩, State.byteAt_setByte_same .., ?_, by simp, by simp, ?_,
      modelKept_setByte ..⟩
    · exact fun sp j hone => State.byteAt_setByte_of_sameEntry { s with agenda := rest } hone v
    · exact bytesKept_setByte { s with agenda := rest } (inSpace u) k v

end Sys2Proof.Machine
end

section
/-! PROOFS. The shift and mask formulas of both datapaths as slices of the 24-bit words (O45; 20_memory.md R51, 41_encoder.md
R121, 43_decoder_repack.md R171). -/

namespace Sys2Proof.Machine

/-- The bits of the group word: `b2` lowest (R51). -/
theorem getLsbD_groupWord (b0 b1 b2 : Byte) (i : Nat) : (b0 ++ b1 ++ b2 : Group).getLsbD i =
    if i < 8 then b2.getLsbD i else if i < 16 then b1.getLsbD (i - 8) else b0.getLsbD (i - 16) := by
  refine (BitVec.getLsbD_append (x := b0 ++ b1) (y := b2)).trans ?_
  rw [BitVec.getLsbD_append, Nat.sub_sub]
  split
  · rfl
  · exact if_congr (by omega) rfl rfl

/-- The bits of the decoder's word: `v3` lowest (R51). -/
theorem getLsbD_decWordOf (v0 v1 v2 v3 : Idx) (i : Nat) : (decWordOf v0 v1 v2 v3).getLsbD i =
    if i < 6 then v3.getLsbD i else if i < 12 then v2.getLsbD (i - 6) else if i < 18 then v1.getLsbD (i - 12)
    else v0.getLsbD (i - 18) := by
  refine (BitVec.getLsbD_append (x := v0 ++ v1 ++ v2) (y := v3)).trans ?_
  rw [BitVec.getLsbD_append, BitVec.getLsbD_append, Nat.sub_sub, Nat.sub_sub]
  grind

theorem idx0_eq_slice (b0 b1 b2 : Byte) : idx0 b0 = (b0 ++ b1 ++ b2 : Group).extractLsb' 18 6 := by
  ext i hi
  rw [BitVec.getElem_extractLsb', getLsbD_groupWord]
  interval_cases i <;> simp [idx0]

theorem idx1_eq_slice (b0 b1 b2 : Byte) : idx1 b0 b1 = (b0 ++ b1 ++ b2 : Group).extractLsb' 12 6 := by
  ext i hi
  rw [BitVec.getElem_extractLsb', getLsbD_groupWord]
  interval_cases i <;> simp [idx1]

theorem idx2_eq_slice (b0 b1 b2 : Byte) : idx2 b1 b2 = (b0 ++ b1 ++ b2 : Group).extractLsb' 6 6 := by
  ext i hi
  rw [BitVec.getElem_extractLsb', getLsbD_groupWord]
  interval_cases i <;> simp [idx2]

theorem idx3_eq_slice (b0 b1 b2 : Byte) : idx3 b2 = (b0 ++ b1 ++ b2 : Group).extractLsb' 0 6 := by
  ext i hi
  rw [BitVec.getElem_extractLsb', getLsbD_groupWord]
  interval_cases i <;> simp [idx3]

theorem byte0_eq_slice (v0 v1 v2 v3 : Idx) : byte0 v0 v1 = (decWordOf v0 v1 v2 v3).extractLsb' 16 8 := by
  ext i hi
  rw [BitVec.getElem_extractLsb', getLsbD_decWordOf]
  interval_cases i <;> simp [byte0]

theorem byte1_eq_slice (v0 v1 v2 v3 : Idx) : byte1 v1 v2 = (decWordOf v0 v1 v2 v3).extractLsb' 8 8 := by
  ext i hi
  rw [BitVec.getElem_extractLsb', getLsbD_decWordOf]
  interval_cases i <;> simp [byte1]

theorem byte2_eq_slice (v0 v1 v2 v3 : Idx) : byte2 v2 v3 = (decWordOf v0 v1 v2 v3).extractLsb' 0 8 := by
  ext i hi
  rw [BitVec.getElem_extractLsb', getLsbD_decWordOf]
  interval_cases i <;> simp [byte2]

/-- Settles O45: bit by bit, each formula picks the bits of its slice. -/
theorem formulasAreSlices : Obligations.FormulasAreSlices := by
  unfold Obligations.FormulasAreSlices
  refine ⟨fun b0 b1 b2 => ?_, fun v0 v1 v2 v3 => ?_⟩
  · exact ⟨idx0_eq_slice b0 b1 b2, idx1_eq_slice b0 b1 b2, idx2_eq_slice b0 b1 b2, idx3_eq_slice b0 b1 b2⟩
  · exact ⟨byte0_eq_slice v0 v1 v2 v3, byte1_eq_slice v0 v1 v2 v3, byte2_eq_slice v0 v1 v2 v3⟩

end Sys2Proof.Machine
end

section
/-! PROOFS. The two constant tables: their closed forms (O6; 30_encoding.md R77, R81), the inverse law between them (O7; R82), and
the stand-alone read of each row (O8, O9; R76, R80, log 9). -/

namespace Sys2Proof.Machine

/-! ## The inverse law -/

theorem decLut_encLut : ∀ i : Idx, decLut (encLut i) = i.setWidth 8 := by decide

theorem encLut_decLut : ∀ c : Byte, decLut c ≤ 63 → encLut ((decLut c).setWidth 6) = c := by decide

/-- Only `=` has the padding entry (R82). -/
theorem eq_padChar_of_decLut : ∀ c : Byte, decLut c = Config.padEntry → c = Config.padChar := by decide

/-- A byte that is neither `=` nor a symbol is invalid (R82): an entry up to 63 would give the symbol back. -/
theorem decLut_of_no_symbol {c : Byte} (hpad : c ≠ Config.padChar) (hsym : ∀ i : Idx, encLut i ≠ c) :
    decLut c = Config.invEntry := by
  rcases decLut_range c with hval | hp | hinv
  · exact absurd (encLut_decLut c hval) (hsym _)
  · exact absurd (eq_padChar_of_decLut c hp) hpad
  · exact hinv

/-- Settles O7: both tables are evaluated at every index; the last part follows from the entries that the table has. -/
theorem tablesAreInverse : Obligations.TablesAreInverse := by
  unfold Obligations.TablesAreInverse
  exact ⟨decLut_encLut, encLut_decLut, rfl, fun c => decLut_of_no_symbol⟩

/-! ## The closed forms -/

theorem encLut_closedForm : ∀ i : Idx, encLut i =
    if i ≤ 25 then 0x41 + i.setWidth 8 else if i ≤ 51 then 0x47 + i.setWidth 8
    else if i ≤ 61 then i.setWidth 8 - 4 else if i = 62 then 0x2B else 0x2F := by decide

theorem decLut_closedForm : ∀ c : Byte, decLut c =
    if 0x41 ≤ c ∧ c ≤ 0x5A then c - 0x41 else if 0x61 ≤ c ∧ c ≤ 0x7A then c - 0x47
    else if 0x30 ≤ c ∧ c ≤ 0x39 then c + 4 else if c = 0x2B then 62 else if c = 0x2F then 63
    else if c = 0x3D then 254 else 255 := by decide

/-- The symbols differ pairwise (R77), since the decode table tells them apart (R82). -/
theorem encLut_injective {i j : Idx} (h : encLut i = encLut j) : i = j := by
  have hwide : i.setWidth 8 = j.setWidth 8 := by rw [← decLut_encLut i, ← decLut_encLut j, h]
  simpa using congrArg (BitVec.setWidth 6) hwide

theorem encLut_lt_and_ne_pad : ∀ i : Idx, encLut i < 128 ∧ encLut i ≠ 0x3D := by decide

/-- Settles O6: both tables are evaluated at every index; that the symbols differ follows from the inverse law. -/
theorem tablesHaveTheirClosedForms : Obligations.TablesHaveTheirClosedForms := by
  unfold Obligations.TablesHaveTheirClosedForms
  exact ⟨encLut_closedForm, fun _ _ => encLut_injective, encLut_lt_and_ne_pad, decLut_closedForm⟩

/-! ## The rows -/

/-- The `n` rows of a list stand at the indices from `start` up: the one at index `k` has the word `word k` and reads the entry
`entry k`. -/
def RowsRead (rows : List Instr) (start n : Nat) (word : Nat → PortWord) (entry : Nat → Byte) : Prop :=
  rows.map (fun i => (encode i, exec i)) = (List.range' start n).map fun k => (word k, answerLut (entry k))

theorem RowsRead.append {l l' : List Instr} {start m n : Nat} {word : Nat → PortWord} {entry : Nat → Byte}
    (h : RowsRead l start m word entry) (h' : RowsRead l' (start + m) n word entry) :
    RowsRead (l ++ l') start (m + n) word entry := by
  unfold RowsRead at *
  rw [List.map_append, h, h', ← List.map_append, List.range'_append_1]

theorem RowsRead.length_eq {rows : List Instr} {start n : Nat} {word : Nat → PortWord} {entry : Nat → Byte}
    (h : RowsRead rows start n word entry) : rows.length = n := by
  simpa using congrArg List.length h

theorem RowsRead.exists_row {rows : List Instr} {n k : Nat} {word : Nat → PortWord} {entry : Nat → Byte}
    (h : RowsRead rows 0 n word entry) (hk : k < n) :
    ∃ i, rows[k]? = some i ∧ encode i = word k ∧ exec i = answerLut (entry k) := by
  have hget := congrArg (fun l => l[k]?) h
  simpa [List.getElem?_map, List.getElem?_range' hk] using hget

theorem encLutRows_read :
    RowsRead encLutRows 0 64 (fun k => .encIndex (BitVec.ofNat 6 k)) fun k => encLut (BitVec.ofNat 6 k) := rfl

/-- The four pieces of the list, one after the other. -/
theorem decLutRows_read :
    RowsRead decLutRows 0 256 (fun k => .decIndex (BitVec.ofNat 8 k)) fun k => decLut (BitVec.ofNat 8 k) := by
  have h01 := RowsRead.append (l := decLutRows0) (l' := decLutRows1) (start := 0) (m := 64) (n := 64)
    (word := fun k => .decIndex (BitVec.ofNat 8 k)) (entry := fun k => decLut (BitVec.ofNat 8 k)) rfl rfl
  exact (h01.append (l' := decLutRows2) (n := 64) rfl).append (l' := decLutRows3) (n := 64) rfl

/-- The row of `ENC_LUT` at index `k` (R76). -/
theorem exists_encLutRow (k : Idx) :
    ∃ i, encLutRows[k.toNat]? = some i ∧ encode i = .encIndex k ∧ exec i = answerLut (encLut k) := by
  simpa using encLutRows_read.exists_row k.isLt

/-- The row of `DEC_LUT` at byte `c` (R80). -/
theorem exists_decLutRow (c : Byte) :
    ∃ i, decLutRows[c.toNat]? = some i ∧ encode i = .decIndex c ∧ exec i = answerLut (decLut c) := by
  simpa using decLutRows_read.exists_row c.isLt

theorem decode_encIndex_of_row {lenW : Option Nat} {k : Idx} {i : Instr} (h : encLutRows[k.toNat]? = some i) :
    decode lenW (.encIndex k) = .ok i := by
  simp only [decode, h, Option.map_some, Option.getD_some]

theorem decode_decIndex_of_row {lenW : Option Nat} {c : Byte} {i : Instr} (h : decLutRows[c.toNat]? = some i) :
    decode lenW (.decIndex c) = .ok i := by
  simp only [decode, h, Option.map_some, Option.getD_some]

/-- Settles O8: the list of rows, its words and its meanings are evaluated together. -/
theorem encLutRowsAnswerTheirEntry : Obligations.EncLutRowsAnswerTheirEntry := by
  unfold Obligations.EncLutRowsAnswerTheirEntry
  refine ⟨encLutRows_read.length_eq, fun k => ?_⟩
  obtain ⟨i, hrow, -, hexec⟩ := exists_encLutRow k
  exact ⟨i, hrow, fun _ => decode_encIndex_of_row hrow, fun s => congrFun hexec s⟩

/-- Settles O9: the list of rows, its words and its meanings are evaluated together. -/
theorem decLutRowsAnswerTheirEntry : Obligations.DecLutRowsAnswerTheirEntry := by
  unfold Obligations.DecLutRowsAnswerTheirEntry
  refine ⟨decLutRows_read.length_eq, fun c => ?_⟩
  obtain ⟨i, hrow, -, hexec⟩ := exists_decLutRow c
  exact ⟨i, hrow, fun _ => decode_decIndex_of_row hrow, fun s => congrFun hexec s⟩

end Sys2Proof.Machine
end

section
/-! PROOFS. Decoding is the exact inverse of encoding (O1; 30_encoding.md R71, R84, R85, R91), and words written out from the
spec's encodings (O2). -/

namespace Sys2Proof
open Machine

/-! ## The rows of the select tables -/

/-- The pattern of an encoder micro-operation; a bit that is not examined is 0 (R84). -/
def EncOp.pattern : EncOp → BitVec 4
  | .sym0 => 0b0001
  | .sym1 => 0b0011
  | .sym2 => 0b0101
  | .sym3 => 0b0111
  | .pad2 => 0b0100
  | .pad3 => 0b0110
  | .finish => 0b1000

/-- The pattern of a scan micro-operation; a bit that is not examined is 0 (R85). -/
def ScanOp.pattern : ScanOp → BitVec 3
  | .val => 0b000
  | .pad => 0b001
  | .inv => 0b010
  | .fin => 0b100

/-- The pattern of a repack micro-operation; a bit that is not examined is 0 (R85). -/
def RepackOp.pattern : RepackOp → BitVec 3
  | .g3 => 0b000
  | .g2 => 0b001
  | .g1 => 0b011
  | .fin => 0b100

/-- A vector selects the micro-operation whose pattern it shows on the bits that are examined. -/
theorem selectOf_encSelectTable {v : BitVec 4} {op : EncOp} :
    selectOf encSelectTable v = some op ↔ (PortWord.encSel v).canon = .encSel op.pattern := by
  cases op <;> decide +revert

theorem selectOf_scanSelectTable {v : BitVec 3} {op : ScanOp} :
    selectOf scanSelectTable v = some op ↔ (PortWord.scanSel v).canon = .scanSel op.pattern := by
  cases op <;> decide +revert

theorem selectOf_repackSelectTable {v : BitVec 3} {op : RepackOp} :
    selectOf repackSelectTable v = some op ↔ (PortWord.repackSel v).canon = .repackSel op.pattern := by
  cases op <;> decide +revert

theorem EncOp.encode_instr (op : EncOp) : encode op.instr = .encSel op.pattern := by cases op <;> rfl
theorem ScanOp.encode_instr (op : ScanOp) : encode op.instr = .scanSel op.pattern := by cases op <;> rfl
theorem RepackOp.encode_instr (op : RepackOp) : encode op.instr = .repackSel op.pattern := by cases op <;> rfl

/-- A CMD word, the only word with an operand (R71). -/
def PortWord.isCommand : PortWord → Bool
  | .ctrl _ _ => true
  | .call _ _ => true
  | .rst _ | .encSel _ | .decCheck | .scanSel _ | .repackSel _ | .encIndex _ | .decIndex _ => false

/-- An instruction without an operand is well formed. -/
theorem wellFormed_of_not_command {i : Instr} (h : (encode i).isCommand = false) (lenW : Option Nat) :
    i.WellFormed lenW = true := by
  cases i with
  | encStart | decStart | encodeOp | decodeOp => simp [encode, PortWord.isCommand] at h
  | _ => rfl

/-! ## What decodes -/

/-- A CMD word that decodes is the command word of an operand that fits (R71). -/
theorem exists_len_of_command {lenW : Option Nat} {w : Nat} {f : Nat → Instr} {i : Instr}
    (h : (commandLen lenW w).map f = .ok i) : ∃ len, w = commandWord len ∧ Config.fitsLen lenW len = true ∧ f len = i := by
  cases hlen : commandLen lenW w with
  | error e => simp [hlen, Except.map] at h
  | ok len =>
    obtain ⟨hw, hfits⟩ := commandLen_ok hlen
    exact ⟨len, hw, hfits, by simpa [hlen, Except.map] using h⟩

/-- A select vector that decodes selects a row of its table. -/
theorem exists_op_of_selected {α : Type} {x : Option α} {f : α → Instr} {e : Reject} {i : Instr}
    (h : (x.map (Except.ok ∘ f)).getD (.error e) = .ok i) : ∃ op, x = some op ∧ f op = i := by
  cases x with
  | none => cases h
  | some op => exact ⟨op, rfl, Except.ok.inj h⟩

/-- A word that decodes is the word of a well-formed instruction but for the bits that are not examined. -/
theorem canon_of_decode {lenW : Option Nat} {p : PortWord} {i : Instr} (h : decode lenW p = .ok i) :
    i.WellFormed lenW = true ∧ p.canon = encode i := by
  have hwf {q : PortWord} (hi : encode i = q) (hq : q.isCommand = false) : i.WellFormed lenW = true :=
    wellFormed_of_not_command (hi ▸ hq) lenW
  cases p with
  | ctrl u w =>
    cases u <;> obtain ⟨len, rfl, hfits, rfl⟩ := exists_len_of_command h <;> exact ⟨hfits, rfl⟩
  | call u w =>
    cases u <;> obtain ⟨len, rfl, hfits, rfl⟩ := exists_len_of_command h <;> exact ⟨hfits, rfl⟩
  | rst b =>
    simp only [decode] at h
    split at h
    · next hb =>
      cases h
      exact ⟨rfl, congrArg PortWord.rst hb⟩
    · cases h
  | encSel v =>
    obtain ⟨op, hsel, rfl⟩ := exists_op_of_selected h
    exact ⟨hwf op.encode_instr rfl, (selectOf_encSelectTable.1 hsel).trans op.encode_instr.symm⟩
  | decCheck =>
    cases h
    exact ⟨rfl, rfl⟩
  | scanSel v =>
    obtain ⟨op, hsel, rfl⟩ := exists_op_of_selected h
    exact ⟨hwf op.encode_instr rfl, (selectOf_scanSelectTable.1 hsel).trans op.encode_instr.symm⟩
  | repackSel v =>
    obtain ⟨op, hsel, rfl⟩ := exists_op_of_selected h
    exact ⟨hwf op.encode_instr rfl, (selectOf_repackSelectTable.1 hsel).trans op.encode_instr.symm⟩
  | encIndex k =>
    obtain ⟨r, hrow, hword, -⟩ := exists_encLutRow k
    obtain rfl : r = i := Except.ok.inj ((decode_encIndex_of_row hrow).symm.trans h)
    exact ⟨hwf hword rfl, hword.symm⟩
  | decIndex c =>
    obtain ⟨r, hrow, hword, -⟩ := exists_decLutRow c
    obtain rfl : r = i := Except.ok.inj ((decode_decIndex_of_row hrow).symm.trans h)
    exact ⟨hwf hword rfl, hword.symm⟩

/-- The word of a well-formed instruction gives it back (R91). -/
theorem decode_encode (i : Instr) : Laws.DecodeEncode.Statement i := by
  cases i with
  | encStart len => exact Laws.DecodeEncode.encStart len
  | decStart len => exact Laws.DecodeEncode.decStart len
  | encodeOp len => exact Laws.DecodeEncode.encodeOp len
  | decodeOp len => exact Laws.DecodeEncode.decodeOp len
  | _ => exact fun _ _ => rfl

/-- The bits that a select table does not examine have no say (R91). -/
theorem decode_canon (lenW : Option Nat) (p : PortWord) : decode lenW p.canon = decode lenW p := by
  cases p with
  | encSel v =>
    have hsel : ∀ v : BitVec 4, selectOf encSelectTable (if v.msb then 0b1000 else v) = selectOf encSelectTable v := by
      decide
    simp only [decode, PortWord.canon, hsel]
  | scanSel v =>
    have hsel : ∀ v : BitVec 3, selectOf scanSelectTable (if v.msb then 0b100 else v) = selectOf scanSelectTable v := by
      decide
    simp only [decode, PortWord.canon, hsel]
  | repackSel v =>
    have hsel : ∀ v : BitVec 3, selectOf repackSelectTable (if v.msb then 0b100 else v) = selectOf repackSelectTable v := by
      decide
    simp only [decode, PortWord.canon, hsel]
  | ctrl | call | rst | decCheck | encIndex | decIndex => rfl

/-- Settles O1: a word that decodes is its instruction's but for the bits not examined, and each instruction's word decodes to
it. -/
theorem decodeIsExactInverseOfEncode : Obligations.DecodeIsExactInverseOfEncode := by
  unfold Obligations.DecodeIsExactInverseOfEncode
  refine fun lenW p i => ⟨canon_of_decode, fun ⟨hwf, hcanon⟩ => ?_⟩
  calc decode lenW p = decode lenW p.canon := (decode_canon lenW p).symm
    _ = decode lenW (encode i) := by rw [hcanon]
    _ = .ok i := decode_encode i lenW hwf

/-- Settles O2: each word is decoded by evaluation. -/
theorem specWordsDecode : Obligations.SpecWordsDecode := by
  unfold Obligations.SpecWordsDecode
  exact ⟨rfl, rfl, rfl, rfl, rfl, rfl, rfl, rfl, rfl, rfl⟩

end Sys2Proof
end

section
/-! PROOFS. The select vectors: what the encoder's registers (O4; 30_encoding.md R84) and the decoder's state (O5; R85) show, and
which micro-operation that selects. -/

namespace Sys2Proof.Machine

/-! ## The encoder -/

/-- The condition of a micro-operation's row of R84. -/
def State.EncSelected (s : State) : EncOp → Prop
  | .sym0 => s.enc.o < s.encM ∧ s.encSel = 0
  | .sym1 => s.enc.o < s.encM ∧ s.encSel = 1
  | .sym2 => s.enc.o < s.encM ∧ s.encSel = 2 ∧ 2 ≤ s.encRem
  | .pad2 => s.enc.o < s.encM ∧ s.encSel = 2 ∧ s.encRem = 1
  | .sym3 => s.enc.o < s.encM ∧ s.encSel = 3 ∧ s.encRem = 3
  | .pad3 => s.enc.o < s.encM ∧ s.encSel = 3 ∧ s.encRem ≤ 2
  | .finish => s.enc.o = s.encM

/-- The condition of some row holds. -/
theorem exists_encSelected {s : State} (ho : s.enc.o ≤ s.encM) : ∃ op, s.EncSelected op := by
  rcases Nat.lt_or_eq_of_le ho with hlt | heq
  · obtain ⟨hlo, hhi⟩ := State.encRem_of_lt hlt
    have hsel : s.encSel < 4 := Nat.mod_lt _ (by decide)
    have hrows : s.encSel = 0 ∨ s.encSel = 1 ∨ (s.encSel = 2 ∧ 2 ≤ s.encRem) ∨ (s.encSel = 2 ∧ s.encRem = 1) ∨
        (s.encSel = 3 ∧ s.encRem = 3) ∨ (s.encSel = 3 ∧ s.encRem ≤ 2) := by omega
    rcases hrows with h | h | h | h | h | h
    · exact ⟨.sym0, hlt, h⟩
    · exact ⟨.sym1, hlt, h⟩
    · exact ⟨.sym2, hlt, h⟩
    · exact ⟨.pad2, hlt, h⟩
    · exact ⟨.sym3, hlt, h⟩
    · exact ⟨.pad3, hlt, h⟩
  · exact ⟨.finish, heq⟩

/-- The select vector shows the pattern of the row whose condition holds. -/
theorem State.EncSelected.encSelect_eq {s : State} {op : EncOp} (h : s.EncSelected op) : s.encSelect = op.pattern := by
  cases op with
  | sym0 =>
    obtain ⟨ho, hsel⟩ := h
    exact State.encSelect_of_lt ho hsel (v := true) (by simp)
  | sym1 =>
    obtain ⟨ho, hsel⟩ := h
    exact State.encSelect_of_lt ho hsel (v := true) (by simpa using (State.encRem_of_lt ho).1)
  | sym2 =>
    obtain ⟨ho, hsel, hrem⟩ := h
    exact State.encSelect_of_lt ho hsel (v := true) (by simpa using hrem)
  | pad2 =>
    obtain ⟨ho, hsel, hrem⟩ := h
    exact State.encSelect_of_lt ho hsel (v := false) (by simp [hrem])
  | sym3 =>
    obtain ⟨ho, hsel, hrem⟩ := h
    exact State.encSelect_of_lt ho hsel (v := true) (by simp [hrem])
  | pad3 =>
    obtain ⟨ho, hsel, hrem⟩ := h
    exact State.encSelect_of_lt ho hsel (v := false) (by simpa using Nat.lt_succ_of_le hrem)
  | finish => exact if_pos h

theorem selectOf_pattern (op : EncOp) : selectOf encSelectTable op.pattern = some op := by cases op <;> rfl

/-- The row whose condition holds is the one selected. -/
theorem State.EncSelected.selects {s : State} {op : EncOp} (h : s.EncSelected op) :
    s.encSelect = op.pattern ∧ decode s.lenW (.encSel op.pattern) = .ok op.instr :=
  ⟨h.encSelect_eq, decode_encSel_of_some (selectOf_pattern op)⟩

/-- The patterns `0000` and `0010` are no row's (R84). -/
theorem pattern_ne_unreachable (op : EncOp) : op.pattern ≠ 0b0000 ∧ op.pattern ≠ 0b0010 := by
  cases op <;> decide

theorem selectOf_encSelectTable_of_msb : ∀ v : BitVec 4, v.msb = true → selectOf encSelectTable v = some .finish := by
  decide

/-- Settles O4: one row of R84 after the other. -/
theorem encoderSelectVector : Obligations.EncoderSelectVector := by
  unfold Obligations.EncoderSelectVector
  intro s _ ho
  obtain ⟨op, hop⟩ := exists_encSelected (s := s) ho
  refine ⟨fun heq => ?atEnd, fun hlt => ?beforeEnd⟩
  case atEnd =>
    have hfinish : s.EncSelected .finish := heq
    refine ⟨by rw [hfinish.encSelect_eq]; rfl, fun v hv => ?_⟩
    exact decode_encSel_of_some (selectOf_encSelectTable_of_msb v hv)
  case beforeEnd =>
    obtain ⟨hne0, hne2⟩ := hop.encSelect_eq ▸ pattern_ne_unreachable op
    exact ⟨(State.encRem_of_lt hlt).1, hne0, hne2,
      fun h => State.EncSelected.selects (op := .sym0) ⟨hlt, h⟩, fun h => State.EncSelected.selects (op := .sym1) ⟨hlt, h⟩,
      fun h => State.EncSelected.selects (op := .sym2) ⟨hlt, h⟩, fun h => State.EncSelected.selects (op := .pad2) ⟨hlt, h⟩,
      fun h => State.EncSelected.selects (op := .sym3) ⟨hlt, h⟩, fun h => State.EncSelected.selects (op := .pad3) ⟨hlt, h⟩⟩

/-! ## The decoder -/

/-- A vector with the first bit set selects END or FINISH, whatever its other bits (R85). -/
theorem decode_of_msb (lenW : Option Nat) (v : BitVec 3) (hv : v.msb = true) :
    decode lenW (.scanSel v) = .ok .decScanEnd ∧ decode lenW (.repackSel v) = .ok .decFinish := by
  have hscan : ∀ v : BitVec 3, v.msb = true → selectOf scanSelectTable v = some .fin := by decide
  have hrepack : ∀ v : BitVec 3, v.msb = true → selectOf repackSelectTable v = some .fin := by decide
  exact ⟨decode_scanSel_of_some (hscan v hv), decode_repackSel_of_some (hrepack v hv)⟩

/-- While characters are left the decoder's state presents the class of the next one (R85). -/
theorem decWord_of_scan_holds {s : State} (hst : s.dec.st = .scan) (hi : s.dec.i < s.dec.len)
    (hh : s.holds .decIn s.dec.i = true) (code : BitVec 2) (hc : (s.decCls s.dec.i).code = code) :
    decWord s = .ok (some (.scanSel (BitVec.ofBool false ++ code))) := by
  rw [decWord_of_scan hst hi, if_pos hh, scanVector, hc]

/-- While groups are left the decoder's state presents which of the last two characters of the next one are `=` (R85). -/
theorem decWord_of_repack_holds {s : State} (hst : s.dec.st = .repack) (hg : s.dec.g < s.decNG) (hh : s.holdsGroup = true)
    {p2 p3 : Bool} (h2 : (s.decCls (4 * s.dec.g + 2) == .pad) = p2) (h3 : (s.decCls (4 * s.dec.g + 3) == .pad) = p3) :
    decWord s = .ok (some (.repackSel (BitVec.ofBool false ++ BitVec.ofBool p2 ++ BitVec.ofBool p3))) := by
  rw [decWord_of_repack hst hg, if_pos hh, repackVector, h2, h3]

/-- An entry up to 63 is a symbol's (R79). -/
theorem exists_val_of_decLut_le {c : Byte} (h : decLut c ≤ 63) : ∃ v, cls c = .val v := ⟨_, if_pos h⟩

theorem cls_beq_pad (c : Byte) : (cls c == .pad) = decide (decLut c = 254) := by
  rw [Bool.eq_iff_iff, beq_iff_eq, decide_eq_true_iff]
  exact cls_eq_pad

/-- In a group of a validated string the fourth character is `=` where the third is (R85, R177). -/
theorem State.GroupShape.pad_of_pad {s : State} (h : s.GroupShape) (h2 : s.decCls (4 * s.dec.g + 2) = .pad) :
    s.decCls (4 * s.dec.g + 3) = .pad := by
  obtain ⟨-, -, -, -, ⟨-, v2, -, hv, -⟩ | ⟨-, v2, hv, -⟩ | ⟨-, -, h3⟩⟩ := h
  · simp [hv] at h2
  · simp [hv] at h2
  · exact h3

/-- Settles O5: one row of R85 after the other. -/
theorem decoderSelectVector : Obligations.DecoderSelectVector := by
  unfold Obligations.DecoderSelectVector
  refine fun s => ⟨fun hst => ?check, fun hst hi => ?scanEnd, fun hst hi hh => ?scan, fun hst hg => ?repackEnd,
    fun hst hg hh => ?repack, decode_of_msb s.lenW, rfl, rfl⟩
  case check => exact ⟨by simp [decWord, hst], rfl⟩
  case scanEnd => exact ⟨0b100, rfl, by simp [decWord, hst, hi], rfl⟩
  case scan =>
    refine ⟨fun hval => ?_, fun hpad => ?_, fun hinv => ?_⟩
    · obtain ⟨v, hv⟩ := exists_val_of_decLut_le hval
      exact ⟨decWord_of_scan_holds hst hi hh 0b00 (congrArg Cls.code hv), rfl⟩
    · exact ⟨decWord_of_scan_holds hst hi hh 0b01 (congrArg Cls.code (cls_eq_pad.2 hpad)), rfl⟩
    · exact ⟨decWord_of_scan_holds hst hi hh 0b10 (congrArg Cls.code (cls_eq_inv.2 hinv)), rfl⟩
  case repackEnd => exact ⟨0b100, rfl, by simp [decWord, State.decNG, hst, hg], rfl⟩
  case repack =>
    have hheld : s.holdsGroup = true := by
      simp only [State.holdsGroup, Bool.and_eq_true]
      exact ⟨⟨⟨hh 0 (by decide), hh 1 (by decide)⟩, hh 2 (by decide)⟩, hh 3 (by decide)⟩
    have hpad (k : Nat) {b : Bool} (hb : decide (decLut (s.byteAt .decIn k) = 254) = b) : (s.decCls k == .pad) = b :=
      (cls_beq_pad _).trans hb
    refine ⟨fun h2 h3 => ?_, fun h2 h3 => ?_, fun h2 h3 => ?_, fun hinv h2 => ?_⟩
    · exact ⟨decWord_of_repack_holds hst hg hheld (hpad _ (decide_eq_false h2)) (hpad _ (decide_eq_false h3)), rfl⟩
    · exact ⟨decWord_of_repack_holds hst hg hheld (hpad _ (decide_eq_false h2)) (hpad _ (decide_eq_true h3)), rfl⟩
    · exact ⟨decWord_of_repack_holds hst hg hheld (hpad _ (decide_eq_true h2)) (hpad _ (decide_eq_true h3)), rfl⟩
    · obtain ⟨-, -, hdec, -⟩ := hinv
      exact cls_eq_pad.1 ((hdec.groupShape hst hg).pad_of_pad (cls_eq_pad.2 h2))

end Sys2Proof.Machine
end

section
/-! PROOFS. Under the invariant no step of a unit stops in a fault (O56; 30_encoding.md R84, R88, 43_decoder_repack.md R177): the
micro-operation that a state selects is one whose condition holds there. -/

namespace Sys2Proof.Machine

/-! ## Outcomes without a fault -/

/-- An outcome that is no fault: a next state, or a refusal. -/
def NoFault (o : Out) : Prop := ∀ f, o ≠ .fault f

theorem noFault_next (t : State) : NoFault (.next t) := nofun

theorem noFault_refused (r : Refusal) : NoFault (.refused r) := nofun

theorem noFault_ite {c : Prop} [Decidable c] {o p : Out} (ho : c → NoFault o) (hp : ¬ c → NoFault p) :
    NoFault (if c then o else p) := by
  split
  · next h => exact ho h
  · next h => exact hp h

theorem noFault_andThen {o : Out} {f : State → Out} (ho : NoFault o) (hf : ∀ t, o = .next t → NoFault (f t)) :
    NoFault (andThen o f) := by
  cases o with
  | next t => exact hf t rfl
  | fault r => exact absurd rfl (ho r)
  | refused r => exact noFault_refused r

/-- An entry that does not exist is refused. -/
theorem noFault_memRead {sp : Space} {k : Nat} {s : State} {f : Byte → Out} (hf : NoFault (f (s.byteAt sp k))) :
    NoFault (memRead sp k s f) :=
  noFault_ite (fun _ => hf) fun _ => noFault_refused _

theorem noFault_memWrite {sp : Space} {k : Nat} {v : Byte} {s : State} {f : State → Out} (hf : NoFault (f (s.setByte sp k v))) :
    NoFault (memWrite sp k v s f) :=
  noFault_ite (fun _ => hf) fun _ => noFault_refused _

/-! ## The encoder -/

theorem noFault_readEncGroup {s : State} {f : Byte → Byte → Byte → Out} (hf : ∀ b0 b1 b2, NoFault (f b0 b1 b2)) :
    NoFault (readEncGroup s f) := by
  have hb2 (b0 b1 : Byte) : NoFault (readB2 s (f b0 b1)) :=
    noFault_ite (fun _ => noFault_memRead (hf b0 b1 _)) fun _ => hf b0 b1 0
  have hb1 (b0 : Byte) : NoFault (readB1 s fun b1 => readB2 s (f b0 b1)) :=
    noFault_ite (fun _ => noFault_memRead (hb2 b0 _)) fun _ => hb2 b0 0
  exact noFault_memRead (f := fun b0 => readB1 s fun b1 => readB2 s (f b0 b1)) (hb1 _)

/-- The group fetch before the write, then the write (R120, R131). -/
theorem noFault_encWrite (s : State) (f : Byte → Byte → Byte → Byte) :
    NoFault (readEncGroup s fun b0 b1 b2 => encPut (f b0 b1 b2) s) :=
  noFault_readEncGroup fun _ _ _ => noFault_memWrite (noFault_next _)

/-- Where its condition holds a micro-operation does not stop in the fault `notSelected` (R84). -/
theorem noFault_guarded {c : Bool} {o : Out} (hc : c = true) (ho : NoFault o) :
    NoFault (if c then o else .fault .notSelected) := by
  rwa [if_pos hc]

/-- A micro-operation whose condition holds takes its effect (R84, R122 to R128). -/
theorem State.EncSelected.noFault {s : State} {op : EncOp} (h : s.EncSelected op) (hrun : s.enc.st = .run) :
    NoFault (execEncOp op s) := by
  cases op with
  | sym0 =>
    obtain ⟨ho, hsel⟩ := h
    exact noFault_guarded (State.encStepAt_encSel hrun ho hsel) (noFault_encWrite s _)
  | sym1 =>
    obtain ⟨ho, hsel⟩ := h
    exact noFault_guarded (State.encStepAt_encSel hrun ho hsel) (noFault_encWrite s _)
  | sym2 =>
    obtain ⟨ho, hsel, hrem⟩ := h
    exact noFault_guarded (by simp [State.encStepAt_encSel hrun ho hsel, hrem]) (noFault_encWrite s _)
  | pad2 =>
    obtain ⟨ho, hsel, hrem⟩ := h
    exact noFault_guarded (by simp [State.encStepAt_encSel hrun ho hsel, hrem]) (noFault_encWrite s _)
  | sym3 =>
    obtain ⟨ho, hsel, hrem⟩ := h
    exact noFault_guarded (by simp [State.encStepAt_encSel hrun ho hsel, hrem]) (noFault_encWrite s _)
  | pad3 =>
    obtain ⟨ho, hsel, hrem⟩ := h
    exact noFault_guarded (by simp [State.encStepAt_encSel hrun ho hsel, hrem]) (noFault_encWrite s _)
  | finish =>
    have hend : s.enc.o = s.encM := h
    exact noFault_guarded (by simp [hrun, hend]) (noFault_next _)

/-- A running encoder within its output steps without a fault. -/
theorem noFault_encStep {s : State} (hrun : s.enc.st = .run) (ho : s.enc.o ≤ s.encM) : NoFault (encStep s) := by
  obtain ⟨op, hop⟩ := exists_encSelected ho
  refine noFault_ite (fun _ => noFault_refused _) fun _ => ?_
  rw [hop.encSelect_eq, selectOf_pattern]
  exact hop.noFault hrun

theorem noFault_encRun {s : State} (h : EncInv s) (k : Nat) : NoFault (encRun k s) := by
  induction k generalizing s with
  | zero => exact noFault_next s
  | succ k ih =>
    refine noFault_ite (fun hb => ?_) fun _ => noFault_next s
    have hrun := encBusy_iff.1 hb
    have ho := (h.of_run hrun).1
    refine noFault_andThen (noFault_encStep hrun ho) fun t ht => ?_
    obtain ⟨-, -, rfl⟩ := (encStep_eq_next hrun ho).1 ht
    exact ih (h.encNext hrun)

theorem noFault_execEncStart (len : Nat) (s : State) : NoFault (execEncStart len s) :=
  noFault_ite (fun _ => noFault_next s) fun _ =>
    noFault_ite (fun _ => noFault_refused _) fun _ => noFault_ite (fun _ => noFault_next _) fun _ => noFault_refused _

/-- START with a length in bound establishes the encoder's invariant (R101). -/
theorem encInv_started {s : State} {n : Nat} (h : Config.lenInBound s.lenW .enc n = true) :
    EncInv (s.setEnc (EncRegs.started n)) :=
  ⟨h, Nat.zero_le _, rfl⟩

theorem noFault_execEncodeOp {s : State} (h : EncInv s) (len : Nat) : NoFault (execEncodeOp len s) := by
  refine noFault_andThen (noFault_execEncStart len s) fun t ht => ?_
  rcases execEncStart_eq_next.1 ht with ⟨-, rfl⟩ | ⟨-, -, hlen, rfl⟩
  · exact noFault_encRun h _
  · exact noFault_encRun (encInv_started hlen) _

/-! ## The decoder -/

/-- A selected repack micro-operation takes its effect on a group of a validated string (R172 to R174, R177). -/
theorem State.GroupShape.noFault {s : State} (h : s.GroupShape) (hst : s.dec.st = .repack) (hg : s.dec.g < s.decNG) :
    NoFault (execDecWord (.repackSel (repackVector (s.decCls (4 * s.dec.g + 2)) (s.decCls (4 * s.dec.g + 3)))) s) := by
  have hrep : s.decRepacking = true := by simp [State.decRepacking, hst, hg]
  have hread {f : Cls → Cls → Cls → Cls → Out} (hf : NoFault (f (s.decCls (4 * s.dec.g)) (s.decCls (4 * s.dec.g + 1))
      (s.decCls (4 * s.dec.g + 2)) (s.decCls (4 * s.dec.g + 3)))) : NoFault (readGroup s f) :=
    noFault_memRead (noFault_memRead (noFault_memRead (noFault_memRead hf)))
  obtain ⟨v0, v1, h0, h1, ⟨-, v2, v3, h2, h3⟩ | ⟨-, v2, h2, h3⟩ | ⟨-, h2, h3⟩⟩ := h
  · simp only [execDecWord, h2, h3, selectOf_repackVector_full, execRepackOp, execDecRepackG3, hrep, if_true]
    apply hread
    rw [h0, h1, h2, h3]
    exact noFault_memWrite (noFault_memWrite (noFault_memWrite (noFault_next _)))
  · simp only [execDecWord, h2, h3, selectOf_repackVector_one_pad, execRepackOp, execDecRepackG2, hrep, if_true]
    apply hread
    rw [h0, h1, h2, h3]
    exact noFault_memWrite (noFault_memWrite (noFault_next _))
  · simp only [execDecWord, h2, h3, selectOf_repackVector_two_pads, execRepackOp, execDecRepackG1, hrep, if_true]
    apply hread
    rw [h0, h1, h2, h3]
    exact noFault_memWrite (noFault_next _)

/-- The meaning of the word that a decoder with its invariant presents is no fault (R85, R88, R177). -/
theorem noFault_execDecWord {s : State} {p : PortWord} (h : DecInv s) (hp : decWord s = .ok (some p)) :
    NoFault (execDecWord p s) := by
  have ⟨_, hile, hgle, _⟩ := h
  cases hst : s.dec.st with
  | idle => simp [decWord, hst] at hp
  | done => simp [decWord, hst] at hp
  | check =>
    obtain rfl : .decCheck = p := by simpa [decWord, hst] using hp
    rw [execDecWord, execDecCheck_of_check hst]
    exact noFault_next _
  | scan =>
    by_cases hi : s.dec.i = s.dec.len
    · obtain rfl : .scanSel 0b100 = p := by simpa [decWord, hst, hi] using hp
      have hexec : execDecWord (.scanSel 0b100) s = .next (s.setDec s.dec.judged) := execDecScanEnd_of_eq hst hi
      rw [hexec]
      exact noFault_next _
    · have hlt := Nat.lt_of_le_of_ne hile hi
      rw [decWord_of_scan hst hlt] at hp
      split at hp
      · next hh =>
        obtain rfl : .scanSel (scanVector (s.decCls s.dec.i)) = p := by simpa using hp
        rw [(execDecWord_scanVector (h.of_scan hst).1 hst hlt).2 ⟨hh, rfl⟩]
        exact noFault_next _
      · cases hp
  | repack =>
    by_cases hg : s.dec.g = s.decNG
    · obtain rfl : .repackSel 0b100 = p := by simpa [decWord, hst, hg] using hp
      have hexec : execDecWord (.repackSel 0b100) s = .next (s.setDec s.dec.finished) := execDecFinish_of_eq hst hg
      rw [hexec]
      exact noFault_next _
    · have hlt := Nat.lt_of_le_of_ne hgle hg
      rw [decWord_of_repack hst hlt] at hp
      split at hp
      · obtain rfl : .repackSel (repackVector (s.decCls (4 * s.dec.g + 2)) (s.decCls (4 * s.dec.g + 3))) = p := by
          simpa using hp
        exact (h.groupShape hst hlt).noFault hst hlt
      · cases hp

/-- A word that unit `DEC` presents is its state's. -/
theorem decWord_of_unitWord {s : State} {p : PortWord} (h : unitWord .dec s = .ok (some p)) : decWord s = .ok (some p) := by
  unfold unitWord at h
  split at h
  · cases h
  · exact h

theorem noFault_decStep {s : State} (h : DecInv s) : NoFault (decStep s) := by
  unfold decStep
  split
  · next p hp => exact noFault_execDecWord h (decWord_of_unitWord hp)
  · exact noFault_next s
  · exact noFault_refused _

theorem noFault_decRun {s : State} (h : DecInv s) (k : Nat) : NoFault (decRun k s) := by
  induction k generalizing s with
  | zero => exact noFault_next s
  | succ k ih =>
    refine noFault_ite (fun hb => ?_) fun _ => noFault_next s
    refine noFault_andThen (noFault_decStep h) fun t ht => ?_
    obtain ⟨hu, -, rfl⟩ := (decStep_eq_next h hb).1 ht
    exact ih (h.decNext (State.unsupported_dec_eq_false.1 hu).1)

theorem noFault_execDecStart (len : Nat) (s : State) : NoFault (execDecStart len s) :=
  noFault_ite (fun _ => noFault_next s) fun _ =>
    noFault_ite (fun _ => noFault_refused _) fun _ => noFault_ite (fun _ => noFault_next _) fun _ => noFault_refused _

theorem noFault_execDecodeOp {s : State} (h : DecInv s) (len : Nat) : NoFault (execDecodeOp len s) := by
  refine noFault_andThen (noFault_execDecStart len s) fun t ht => ?_
  rcases execDecStart_eq_next.1 ht with ⟨-, rfl⟩ | ⟨-, -, hlen, rfl⟩
  · exact noFault_decRun h _
  · exact noFault_decRun (decInv_started hlen) _

end Sys2Proof.Machine
end

section
/-! PROOFS. From a state that meets the invariant no step of the machine stops in a fault, whatever input it takes (O56;
30_encoding.md R84, R88, 43_decoder_repack.md R177). -/

namespace Sys2Proof.Machine

/-! ## The host's accesses -/

theorem noFault_hostWriteIn (u : UnitId) (k : Nat) (v : Byte) (s : State) : NoFault (hostWriteIn u k v s) :=
  noFault_ite (fun _ => noFault_refused _) fun _ => noFault_ite (fun _ => noFault_refused _) fun _ =>
    noFault_ite (fun _ => noFault_refused _) fun _ => noFault_memWrite (noFault_next _)

theorem noFault_hostBusWriteIn (u : UnitId) (k a w : Nat) (s : State) : NoFault (hostBusWriteIn u k a w s) :=
  noFault_ite (fun _ => noFault_hostWriteIn u k _ s) fun _ => noFault_refused _

theorem noFault_hostReadOut (u : UnitId) (k : Nat) (s : State) : NoFault (hostReadOut u k s) :=
  noFault_ite (fun _ => noFault_memRead (noFault_next _)) fun _ => noFault_next _

theorem noFault_hostBusRead (a : Nat) (s : State) : NoFault (hostBusRead a s) := by
  unfold hostBusRead
  split
  · exact noFault_next _
  · exact noFault_hostReadOut .enc _ s
  · exact noFault_hostReadOut .dec _ s
  · exact noFault_ite (fun _ => noFault_hostReadOut .enc _ s) fun _ => noFault_hostReadOut .dec _ s
  · exact noFault_refused _

/-! ## What is fetched -/

/-- What the machine's step makes of what is fetched is no fault. -/
def Fetched.Safe (x : Fetched) : Prop := ∀ s, fetch s = x → Machine.Safe s

theorem Fetched.safe_other {o : Out} (ho : NoFault o) : (Fetched.other o).Safe := by
  intro s hs
  rw [Machine.Safe, step_of_fetch_other hs]
  exact ho

theorem Fetched.safe_word {p : PortWord} {t : State} {i : Instr} (hd : decode t.lenW p = .ok i) (hi : NoFault (exec i t)) :
    (Fetched.word p t).Safe := by
  intro s hs
  rw [Machine.Safe, step_of_fetch_word hs hd]
  exact hi

/-- A CMD word starts an operation, does nothing, or is refused (R28, R71). -/
theorem Fetched.safe_command {p : PortWord} {t : State} {w : Nat} {f : Nat → Instr}
    (hp : decode t.lenW p = (commandLen t.lenW w).map f) (hf : ∀ len, NoFault (exec (f len) t)) :
    (Fetched.word p t).Safe := by
  cases hlen : commandLen t.lenW w with
  | ok len => exact safe_word (i := f len) (by rw [hp, hlen]; rfl) (hf len)
  | error e =>
    intro s hs
    rw [Machine.Safe, step_of_fetch_rejected (e := e) hs (by rw [hp, hlen]; rfl)]
    unfold commandLen at hlen
    split at hlen
    · split at hlen
      · cases hlen
      · cases hlen
        exact noFault_next t
    · cases hlen
      exact noFault_refused _

theorem Fetched.safe_ctrl (u : UnitId) (w : Nat) (t : State) : (Fetched.word (.ctrl u w) t).Safe := by
  cases u with
  | enc => exact safe_command (f := .encStart) rfl fun len => noFault_execEncStart len t
  | dec => exact safe_command (f := .decStart) rfl fun len => noFault_execDecStart len t

theorem Fetched.safe_writeRegister (u : UnitId) (reg : Fin 4) (w : Nat) (t : State) : (writeRegister u reg w t).Safe := by
  unfold writeRegister
  split
  · exact safe_ctrl u w t
  · exact safe_other (noFault_next t)

theorem Fetched.safe_busWritten (a w : Nat) (t : State) : (busWritten a w t).Safe := by
  unfold busWritten
  split
  · exact safe_writeRegister _ _ w t
  · exact safe_other (noFault_hostBusWriteIn _ _ a w t)
  · exact safe_other (noFault_hostBusWriteIn _ _ a w t)
  · exact safe_other (noFault_hostBusWriteIn _ _ a w t)
  · exact safe_other (noFault_refused _)

theorem Fetched.safe_rst (t : State) : (Fetched.word (.rst 1) t).Safe := safe_word (i := .reset) rfl (noFault_next _)

/-- At a clock edge a unit that is not at rest takes its step, and one at rest none. -/
theorem Fetched.safe_unitEdge {t : State} (h : Inv t) (u : UnitId) : (unitEdge u t).Safe := by
  obtain ⟨-, henc, hdec, -⟩ := h
  cases u with
  | enc =>
    cases hb : busy .enc t with
    | true =>
      intro s hs
      have hrun := encBusy_iff.1 hb
      rw [Machine.Safe, step_of_fetch_encEdge hs hrun]
      exact noFault_encStep hrun (henc.of_run hrun).1
    | false =>
      rw [unitEdge_of_no_word (unitWord_of_rest hb)]
      exact safe_other (noFault_next t)
  | dec =>
    intro s hs
    rw [Machine.Safe, step_of_fetch_decEdge hs]
    exact noFault_decStep hdec

theorem Fetched.safe_present {t : State} (h : Inv t) (inp : Input) : (present inp t).Safe := by
  have ⟨_, henc, hdec, _⟩ := h
  cases inp with
  | clk u => exact safe_unitEdge h u
  | rst => exact safe_rst t
  | writeReg u reg w rst =>
    cases rst with
    | true => exact safe_rst t
    | false => exact safe_writeRegister u reg w t
  | call u w =>
    cases u with
    | enc => exact safe_command (f := .encodeOp) rfl fun len => noFault_execEncodeOp henc len
    | dec => exact safe_command (f := .decodeOp) rfl fun len => noFault_execDecodeOp hdec len
  | encIndex k =>
    obtain ⟨i, hrow, -, hexec⟩ := exists_encLutRow k
    exact safe_word (decode_encIndex_of_row hrow) (hexec ▸ noFault_next _)
  | decIndex c =>
    obtain ⟨i, hrow, -, hexec⟩ := exists_decLutRow c
    exact safe_word (decode_decIndex_of_row hrow) (hexec ▸ noFault_next _)
  | writeIn u k v => exact safe_other (noFault_hostWriteIn u k v t)
  | readReg u reg => exact safe_other (noFault_next _)
  | readOut u k => exact safe_other (noFault_hostReadOut u k t)
  | busRead a => exact safe_other (noFault_hostBusRead a t)
  | busWrite a w => exact safe_busWritten a w t

theorem Fetched.safe_freeRun {s : State} (h : Inv s) : (freeRun s).Safe := by
  have hdraw : Inv s.draw := h
  unfold freeRun
  split
  · split
    · exact safe_unitEdge hdraw _
    · exact safe_unitEdge h .enc
  · exact safe_unitEdge h .dec

/-- Settles O56: with an input to come what it presents is safe, and with none the step of the unit that runs. -/
theorem invariantStatesAreSafe : Obligations.InvariantStatesAreSafe := by
  unfold Obligations.InvariantStatesAreSafe
  intro s h
  cases hs : s.agenda with
  | nil => exact Fetched.safe_freeRun h s (fetch_of_no_agenda hs)
  | cons inp rest =>
    have hrest : Inv { s with agenda := rest } := h
    exact Fetched.safe_present hrest inp s (fetch_of_agenda hs)

/-- O56 says something of a step that both units could take: it gives a next state. -/
theorem bothRun_safe : Safe Tests.bothRun ∧ ∃ t, step Tests.bothRun = .next t := by
  refine ⟨invariantStatesAreSafe _ Tests.witness_bothRun_inv, ?_⟩
  obtain ⟨hinv, hprov, he, -, hno⟩ := Tests.witness_BothBusy
  obtain ⟨t, ht, -⟩ := FreeRunning.exists_step ⟨hinv, hno, hprov⟩ (.inl he)
  exact ⟨t, ht⟩

end Sys2Proof.Machine
end

section
/-! PROOFS. The shift and mask formulas of both datapaths as numbers (O44; 40_commands.md R108, 41_encoder.md R121,
43_decoder_repack.md R171), and that the decoder's bytes and the encoder's fields undo each other. -/

namespace Sys2Proof.Machine

/-! ## Fields and bytes as numbers -/

/-- A `|` of a shifted word and one below the shift is a sum. -/
theorem toNat_shiftLeft_or {w : Nat} {x y : BitVec w} {k : Nat} (hx : x.toNat * 2 ^ k < 2 ^ w) (hy : y.toNat < 2 ^ k) :
    (x <<< k ||| y).toNat = x.toNat * 2 ^ k + y.toNat := by
  rw [BitVec.toNat_or, BitVec.toNat_shiftLeft, Nat.shiftLeft_eq, Nat.mod_eq_of_lt hx, ← Nat.shiftLeft_eq,
    Nat.shiftLeft_add_eq_or_of_lt hy]

/-- A mask of the low bits is a remainder. -/
theorem toNat_and_lowMask {w : Nat} (x : BitVec w) {m : BitVec w} {k : Nat} (hm : m.toNat = 2 ^ k - 1) :
    (x &&& m).toNat = x.toNat % 2 ^ k := by
  rw [BitVec.toNat_and, hm, Nat.and_two_pow_sub_one_eq_mod]

theorem toNat_shiftRight {w : Nat} (x : BitVec w) (k : Nat) : (x >>> k).toNat = x.toNat / 2 ^ k := by
  rw [BitVec.toNat_ushiftRight, Nat.shiftRight_eq_div_pow]

theorem toNat_idx0 (b0 : Byte) : (idx0 b0).toNat = b0.toNat / 4 := by
  have h0 := b0.isLt
  rw [idx0, BitVec.toNat_setWidth, toNat_shiftRight]
  omega

theorem toNat_idx1 (b0 b1 : Byte) : (idx1 b0 b1).toNat = b0.toNat % 4 * 16 + b1.toNat / 16 := by
  have h1 := b1.isLt
  have hmask : (b0 &&& 0x03).toNat = b0.toNat % 2 ^ 2 := toNat_and_lowMask b0 rfl
  have hlow := toNat_shiftRight b1 4
  rw [idx1, BitVec.toNat_setWidth, toNat_shiftLeft_or (by omega) (by omega), hmask, hlow]
  omega

theorem toNat_idx2 (b1 b2 : Byte) : (idx2 b1 b2).toNat = b1.toNat % 16 * 4 + b2.toNat / 64 := by
  have h2 := b2.isLt
  have hmask : (b1 &&& 0x0F).toNat = b1.toNat % 2 ^ 4 := toNat_and_lowMask b1 rfl
  have hlow := toNat_shiftRight b2 6
  rw [idx2, BitVec.toNat_setWidth, toNat_shiftLeft_or (by omega) (by omega), hmask, hlow]
  omega

theorem toNat_idx3 (b2 : Byte) : (idx3 b2).toNat = b2.toNat % 64 := by
  have hmask : (b2 &&& 0x3F).toNat = b2.toNat % 2 ^ 6 := toNat_and_lowMask b2 rfl
  rw [idx3, BitVec.toNat_setWidth, hmask]
  omega

/-- A 6-bit value keeps its number in a byte. -/
theorem toNat_setWidth_byte (v : Idx) : (v.setWidth 8).toNat = v.toNat := by
  have hv := v.isLt
  rw [BitVec.toNat_setWidth]
  omega

theorem toNat_byte0 (v0 v1 : Idx) : (byte0 v0 v1).toNat = v0.toNat * 4 + v1.toNat / 16 := by
  have h0 := v0.isLt
  have h1 := v1.isLt
  have hhigh := toNat_setWidth_byte v0
  have hlow := toNat_shiftRight (v1.setWidth 8) 4
  rw [toNat_setWidth_byte] at hlow
  rw [byte0, toNat_shiftLeft_or (by omega) (by omega), hhigh, hlow]
  omega

theorem toNat_byte1 (v1 v2 : Idx) : (byte1 v1 v2).toNat = v1.toNat % 16 * 16 + v2.toNat / 4 := by
  have h2 := v2.isLt
  have hmask : (v1.setWidth 8 &&& 0xF).toNat = (v1.setWidth 8).toNat % 2 ^ 4 := toNat_and_lowMask _ rfl
  have hlow := toNat_shiftRight (v2.setWidth 8) 2
  rw [toNat_setWidth_byte] at hmask hlow
  rw [byte1, toNat_shiftLeft_or (by omega) (by omega), hmask, hlow]
  omega

theorem toNat_byte2 (v2 v3 : Idx) : (byte2 v2 v3).toNat = v2.toNat % 4 * 64 + v3.toNat := by
  have h3 := v3.isLt
  have hmask : (v2.setWidth 8 &&& 0x3).toNat = (v2.setWidth 8).toNat % 2 ^ 2 := toNat_and_lowMask _ rfl
  have hlow := toNat_setWidth_byte v3
  rw [toNat_setWidth_byte] at hmask
  rw [byte2, toNat_shiftLeft_or (by omega) (by omega), hmask, hlow]
  omega

/-- Settles O44: each formula is a shifted part plus a part below the shift. -/
theorem datapathLosesNoBit : Obligations.DatapathLosesNoBit := by
  unfold Obligations.DatapathLosesNoBit
  refine ⟨fun b0 b1 b2 => ?_, fun v0 v1 v2 v3 => ?_⟩
  · exact ⟨toNat_idx0 b0, toNat_idx1 b0 b1, toNat_idx2 b1 b2, toNat_idx3 b2⟩
  · exact ⟨toNat_byte0 v0 v1, toNat_byte1 v1 v2, toNat_byte2 v2 v3⟩

/-! ## Each datapath undoes the other -/

/-- The bytes of the four fields of a group are the group (R108). -/
theorem bytes_of_fields (b0 b1 b2 : Byte) :
    byte0 (idx0 b0) (idx1 b0 b1) = b0 ∧ byte1 (idx1 b0 b1) (idx2 b1 b2) = b1 ∧ byte2 (idx2 b1 b2) (idx3 b2) = b2 := by
  have h1 := b1.isLt
  have h2 := b2.isLt
  refine ⟨BitVec.eq_of_toNat_eq ?_, BitVec.eq_of_toNat_eq ?_, BitVec.eq_of_toNat_eq ?_⟩
  · rw [toNat_byte0, toNat_idx0, toNat_idx1]
    omega
  · rw [toNat_byte1, toNat_idx1, toNat_idx2]
    omega
  · rw [toNat_byte2, toNat_idx2, toNat_idx3]
    omega

/-- The fields of the three bytes of a group are its values (R108). -/
theorem fields_of_bytes (v0 v1 v2 v3 : Idx) :
    idx0 (byte0 v0 v1) = v0 ∧ idx1 (byte0 v0 v1) (byte1 v1 v2) = v1 ∧ idx2 (byte1 v1 v2) (byte2 v2 v3) = v2 ∧
      idx3 (byte2 v2 v3) = v3 := by
  have h1 := v1.isLt
  have h2 := v2.isLt
  have h3 := v3.isLt
  refine ⟨BitVec.eq_of_toNat_eq ?_, BitVec.eq_of_toNat_eq ?_, BitVec.eq_of_toNat_eq ?_, BitVec.eq_of_toNat_eq ?_⟩
  · rw [toNat_idx0, toNat_byte0]
    omega
  · rw [toNat_idx1, toNat_byte0, toNat_byte1]
    omega
  · rw [toNat_idx2, toNat_byte1, toNat_byte2]
    omega
  · rw [toNat_idx3, toNat_byte2]
    omega

/-- With two `=` the second field is the value whose low four bits, the tail bits, are zero (R108, R149). -/
theorem idx1_byte0_zero {v0 v1 : Idx} (h : v1.toNat % 16 = 0) : idx1 (byte0 v0 v1) 0 = v1 := by
  have h1 := v1.isLt
  refine BitVec.eq_of_toNat_eq ?_
  have hz : (0 : Byte).toNat = 0 := rfl
  rw [toNat_idx1, toNat_byte0, hz]
  omega

/-- With one `=` the third field is the value whose low two bits, the tail bits, are zero (R108, R149). -/
theorem idx2_byte1_zero {v1 v2 : Idx} (h : v2.toNat % 4 = 0) : idx2 (byte1 v1 v2) 0 = v2 := by
  have h2 := v2.isLt
  refine BitVec.eq_of_toNat_eq ?_
  have hz : (0 : Byte).toNat = 0 := rfl
  rw [toNat_idx2, toNat_byte1, hz]
  omega

/-- The tail bits of the second field of a single byte are zero. -/
theorem toNat_idx1_zero_mod (b0 : Byte) : (idx1 b0 0).toNat % 16 = 0 := by
  have hz : (0 : Byte).toNat = 0 := rfl
  rw [toNat_idx1, hz]
  omega

/-- The tail bits of the third field of two bytes are zero. -/
theorem toNat_idx2_zero_mod (b1 : Byte) : (idx2 b1 0).toNat % 4 = 0 := by
  have hz : (0 : Byte).toNat = 0 := rfl
  rw [toNat_idx2, hz]
  omega

end Sys2Proof.Machine
end

section
/-! PROOFS. `enc` group by group (O41; 40_commands.md R104, R105): three bytes give four symbols, and one or two bytes at the end
give symbols and `=`. -/

namespace Sys2Proof.Machine

/-! ## Groups of three bytes -/

/-- Induction over a byte sequence in groups of three, with one or two bytes left at the end (R104). -/
theorem byteGroups_induction {P : List Byte → Prop} (nil : P []) (one : ∀ b0, P [b0]) (two : ∀ b0 b1, P [b0, b1])
    (group : ∀ b0 b1 b2 r, P r → P (b0 :: b1 :: b2 :: r)) : ∀ b, P b
  | [] => nil
  | [b0] => one b0
  | [b0, b1] => two b0 b1
  | b0 :: b1 :: b2 :: r => group b0 b1 b2 r (byteGroups_induction nil one two group r)

theorem byteOf_drop (b : List Byte) (m k : Nat) : byteOf (b.drop m) k = byteOf b (m + k) := by
  simp [byteOf, List.getD_eq_getElem?_getD]

/-- A character of a later group is one of the rest (R104). -/
theorem encChar_add_four (b : List Byte) (o : Nat) : encChar b (o + 4) = encChar (b.drop 3) o := by
  have hbase : 3 * ((o + 4) / 4) = 3 + 3 * (o / 4) := by omega
  simp only [encChar, hbase, Nat.add_mod_right, List.length_drop, byteOf_drop, Nat.add_assoc, Nat.sub_add_eq]

@[simp] theorem enc_nil : enc [] = [] := rfl

/-- Every sequence with a byte left encodes as its first group and the rest (R104). -/
theorem enc_of_ne_nil {b : List Byte} (h : b ≠ []) :
    enc b = encChar b 0 :: encChar b 1 :: encChar b 2 :: encChar b 3 :: enc (b.drop 3) := by
  have hpos := List.length_pos_iff.2 h
  have hm : encM b.length = encM (b.drop 3).length + 4 := by
    simp only [encM, List.length_drop]
    omega
  simp [enc, hm, List.range_succ_eq_map, Function.comp_def, encChar_add_four]

theorem enc_one (b0 : Byte) : enc [b0] = [encLut (idx0 b0), encLut (idx1 b0 0), Config.padChar, Config.padChar] := by
  rw [enc_of_ne_nil (by simp)]
  simp [encChar, encIdx, byteOf]

theorem enc_two (b0 b1 : Byte) :
    enc [b0, b1] = [encLut (idx0 b0), encLut (idx1 b0 b1), encLut (idx2 b1 0), Config.padChar] := by
  rw [enc_of_ne_nil (by simp)]
  simp [encChar, encIdx, byteOf]

theorem enc_group (b0 b1 b2 : Byte) (r : List Byte) : enc (b0 :: b1 :: b2 :: r) =
    encLut (idx0 b0) :: encLut (idx1 b0 b1) :: encLut (idx2 b1 b2) :: encLut (idx3 b2) :: enc r := by
  rw [enc_of_ne_nil (by simp)]
  simp [encChar, encIdx, byteOf]

/-! ## Length and padding -/

@[simp] theorem length_enc (b : List Byte) : (enc b).length = encM b.length := by simp [enc]

theorem encLut_ne_padChar (i : Idx) : encLut i ≠ Config.padChar := (encLut_lt_and_ne_pad i).2

theorem count_pad_enc (b : List Byte) :
    (enc b).count Config.padChar = if b.length % 3 = 0 then 0 else if b.length % 3 = 1 then 2 else 1 := by
  induction b using byteGroups_induction with
  | nil => rfl
  | one b0 => simp [enc_one, encLut_ne_padChar]
  | two b0 b1 => simp [enc_two, encLut_ne_padChar]
  | group b0 b1 b2 r ih =>
    have hmod : (b0 :: b1 :: b2 :: r).length % 3 = r.length % 3 := Nat.add_mod_right r.length 3
    rw [hmod, ← ih]
    simp [enc_group, encLut_ne_padChar]

/-- Every character of an encoding is a symbol or `=` (R104). -/
theorem encChar_eq_encLut_or_pad (b : List Byte) (o : Nat) : (∃ i, encChar b o = encLut i) ∨ encChar b o = Config.padChar := by
  unfold encChar
  dsimp only
  split
  · exact .inl ⟨_, rfl⟩
  · exact .inr rfl

/-- Settles O41: the length is that of the definition, and the `=` are counted group by group. -/
theorem encodedLengthAndPadding : Obligations.EncodedLengthAndPadding := by
  unfold Obligations.EncodedLengthAndPadding
  refine fun b => ⟨length_enc b, by simp [encM], count_pad_enc b, fun c hc hne => ?_⟩
  obtain ⟨o, -, rfl⟩ := List.mem_map.1 hc
  exact (encChar_eq_encLut_or_pad b o).resolve_right hne

end Sys2Proof.Machine
end

section
/-! PROOFS. `dec` accepts exactly the strings that `enc` produces (O39, O40; 40_commands.md R113, R114): the scan accepts symbols
followed by at most two `=`, and each group of such a string, its tail bits zero, is the encoding of its bytes. -/

namespace Sys2Proof.Machine

/-! ## Classes of characters -/

theorem cls_encLut (v : Idx) : cls (encLut v) = .val v := cls_eq_val.2 (decLut_encLut v)

theorem cls_padChar : cls Config.padChar = .pad := by decide

theorem eq_encLut_of_cls {c : Byte} {v : Idx} (h : cls c = .val v) : c = encLut v := by
  have hle : decLut c ≤ 63 := by
    rw [cls_eq_val.1 h]
    exact (by decide : ∀ w : Idx, w.setWidth 8 ≤ (63 : Byte)) v
  have hc := encLut_decLut c hle
  rw [cls_eq_val.1 h, (symbolEntry v).2] at hc
  exact hc.symm

theorem eq_padChar_of_cls {c : Byte} (h : cls c = .pad) : c = Config.padChar := eq_padChar_of_decLut c (cls_eq_pad.1 h)

/-- All characters of `l` are symbols of the alphabet. -/
def Symbols (l : List Byte) : Prop := ∀ c ∈ l, ∃ v, cls c = .val v

@[simp] theorem symbols_nil : Symbols [] := fun _ h => by cases h

@[simp] theorem symbols_cons {c : Byte} {l : List Byte} : Symbols (c :: l) ↔ (∃ v, cls c = .val v) ∧ Symbols l :=
  List.forall_mem_cons

/-- `l` consists of symbols followed by `p` characters `=`. -/
def SymbolsThenPads (l : List Byte) (p : Nat) : Prop := ∃ vs, Symbols vs ∧ l = vs ++ List.replicate p Config.padChar

theorem symbolsThenPads_nil {p : Nat} : SymbolsThenPads [] p ↔ p = 0 := by
  constructor
  · rintro ⟨vs, -, h⟩
    simpa using (List.append_eq_nil_iff.1 h.symm).2
  · rintro rfl
    exact ⟨[], symbols_nil, rfl⟩

/-- The first character is a symbol before such a string, or the string is all `=`. -/
theorem symbolsThenPads_cons {c : Byte} {r : List Byte} {p : Nat} : SymbolsThenPads (c :: r) p ↔
    ((∃ v, cls c = .val v) ∧ SymbolsThenPads r p) ∨
    (c = Config.padChar ∧ r = List.replicate r.length Config.padChar ∧ p = r.length + 1) := by
  constructor
  · rintro ⟨vs, hvs, h⟩
    cases vs with
    | cons c' vs =>
      rw [List.cons_append, List.cons.injEq] at h
      obtain ⟨rfl, h⟩ := h
      obtain ⟨hc, hvs⟩ := symbols_cons.1 hvs
      exact .inl ⟨hc, vs, hvs, h⟩
    | nil =>
      have hp : p = r.length + 1 := by simpa using (congrArg List.length h).symm
      rw [List.nil_append, hp, List.replicate_succ, List.cons.injEq] at h
      exact .inr ⟨h.1, h.2, hp⟩
  · rintro (⟨hc, vs, hvs, rfl⟩ | ⟨rfl, hr, rfl⟩)
    · exact ⟨c :: vs, symbols_cons.2 ⟨hc, hvs⟩, rfl⟩
    · exact ⟨[], symbols_nil, by rw [List.replicate_succ, ← hr, List.nil_append]⟩

/-! ## What the scan accepts -/

/-- After a `=` the scan accepts only more of them, in the last two positions (R145, R148). -/
theorem decScan_after_pad {len i pad p : Nat} {l : List Byte} (hlen : i + l.length = len) (hpad : pad ≠ 0) :
    decScan len l i pad = .ok p ↔ l.length ≤ 2 ∧ p = pad + l.length ∧ l = List.replicate l.length Config.padChar := by
  induction l generalizing i pad with
  | nil => simp [decScan, eq_comm]
  | cons c r ih =>
    simp only [List.length_cons] at hlen
    simp only [decScan, List.length_cons, List.replicate_succ, List.cons.injEq]
    cases hc : cls c with
    | val v =>
      have hne : c ≠ Config.padChar := fun h => by simp [h, cls_padChar] at hc
      simp [hpad, hne]
    | inv =>
      have hne : c ≠ Config.padChar := fun h => by simp [h, cls_padChar] at hc
      simp [hne]
    | pad =>
      dsimp only
      split
      · have hlong : ¬ r.length + 1 ≤ 2 := by omega
        simp [hlong]
      · have hshort : r.length + 1 ≤ 2 := by omega
        rw [ih (by omega) (Nat.succ_ne_zero pad)]
        simp [eq_padChar_of_cls hc, hshort, show r.length ≤ 2 by omega,
          show pad + 1 + r.length = pad + (r.length + 1) by omega]

/-- The scan accepts symbols followed by at most two `=`, and counts these (R142 to R145). -/
theorem decScan_eq_ok {len i p : Nat} {l : List Byte} (hlen : i + l.length = len) :
    decScan len l i 0 = .ok p ↔ p ≤ 2 ∧ SymbolsThenPads l p := by
  induction l generalizing i with
  | nil =>
    rw [symbolsThenPads_nil]
    simp only [decScan, Except.ok.injEq]
    omega
  | cons c r ih =>
    simp only [List.length_cons] at hlen
    rw [symbolsThenPads_cons]
    simp only [decScan]
    cases hc : cls c with
    | val v =>
      have hne : c ≠ Config.padChar := fun h => by simp [h, cls_padChar] at hc
      simp [ih (i := i + 1) (by omega), hne]
    | inv =>
      have hne : c ≠ Config.padChar := fun h => by simp [h, cls_padChar] at hc
      simp [hne]
    | pad =>
      have hpad := eq_padChar_of_cls hc
      dsimp only
      split
      · simp
        omega
      · rw [decScan_after_pad (by omega) (by omega)]
        simp
        grind

/-! ## What `dec` accepts -/

/-- `s` passes the scan with `p` characters `=`, and its tail bits are zero (R147, R149). -/
def Accepted (s : List Byte) (p : Nat) : Prop := p ≤ 2 ∧ SymbolsThenPads s p ∧ tailBitsBad s p = false

theorem dec_eq_ok_iff {s out : List Byte} :
    dec s = .ok out ↔ s.length % 4 = 0 ∧ (∃ p, Accepted s p) ∧ repackAll s = out := by
  by_cases hz : s.length = 0
  · obtain rfl := List.length_eq_zero_iff.1 hz
    have hempty : ∃ p, Accepted [] p := ⟨0, by decide, symbolsThenPads_nil.2 rfl, rfl⟩
    simp [dec, hempty, repackAll]
  · by_cases hmul : s.length % 4 = 0
    · simp only [dec, hz, hmul, if_false, ne_eq, not_true, true_and]
      constructor
      · intro h
        split at h
        · cases h
        · next p hscan =>
          split at h
          · cases h
          · next htail =>
            obtain ⟨hp, hs⟩ := (decScan_eq_ok (Nat.zero_add _)).1 hscan
            exact ⟨⟨p, hp, hs, by simpa using htail⟩, by simpa using h⟩
      · rintro ⟨⟨p, hp, hs, htail⟩, rfl⟩
        have hscan := (decScan_eq_ok (Nat.zero_add s.length)).2 ⟨hp, hs⟩
        simp [hscan, htail]
    · simp [dec, hz, hmul]

/-! ## Groups of four characters -/

/-- Induction over a string whose length is a multiple of four, in groups (R170). -/
theorem charGroups_induction {P : List Byte → Prop} (nil : P [])
    (group : ∀ c0 c1 c2 c3 r, r.length % 4 = 0 → P r → P (c0 :: c1 :: c2 :: c3 :: r)) :
    ∀ s : List Byte, s.length % 4 = 0 → P s
  | [], _ => nil
  | [_], h => absurd h (by simp)
  | [_, _], h => absurd h (by simp)
  | [_, _, _], h => absurd h (by simp)
  | c0 :: c1 :: c2 :: c3 :: r, h =>
    have hr : r.length % 4 = 0 := (Nat.add_mod_right r.length 4).symm.trans h
    group c0 c1 c2 c3 r hr (charGroups_induction nil group r hr)

theorem symbolsThenPads_cons_of_le {c : Byte} {r : List Byte} {p : Nat} (h : p ≤ r.length) :
    SymbolsThenPads (c :: r) p ↔ (∃ v, cls c = .val v) ∧ SymbolsThenPads r p := by
  have hne : p ≠ r.length + 1 := by omega
  simp [symbolsThenPads_cons, hne]

/-- The tail bits are those of the last group (R149). -/
theorem tailBitsBad_group (c0 c1 c2 c3 : Byte) {r : List Byte} (h : 3 ≤ r.length) (p : Nat) :
    tailBitsBad (c0 :: c1 :: c2 :: c3 :: r) p = tailBitsBad r p := by
  have hdrop (k : Nat) : byteOf (c0 :: c1 :: c2 :: c3 :: r) (4 + k) = byteOf r k :=
    (byteOf_drop (c0 :: c1 :: c2 :: c3 :: r) 4 k).symm
  simp only [tailBitsBad, List.length_cons, show r.length + 1 + 1 + 1 + 1 - 3 = 4 + (r.length - 3) by omega,
    show r.length + 1 + 1 + 1 + 1 - 2 = 4 + (r.length - 2) by omega, hdrop]

/-- A group with more of the string after it is accepted when it has four symbols and the rest is accepted. -/
theorem accepted_group {c0 c1 c2 c3 : Byte} {r : List Byte} {p : Nat} (h : 3 ≤ r.length) :
    Accepted (c0 :: c1 :: c2 :: c3 :: r) p ↔ Symbols [c0, c1, c2, c3] ∧ Accepted r p := by
  unfold Accepted
  rw [tailBitsBad_group c0 c1 c2 c3 h]
  by_cases hp : p ≤ 2
  · rw [symbolsThenPads_cons_of_le (by simp only [List.length_cons]; omega),
      symbolsThenPads_cons_of_le (by simp only [List.length_cons]; omega),
      symbolsThenPads_cons_of_le (by simp only [List.length_cons]; omega), symbolsThenPads_cons_of_le (by omega)]
    simp [hp, and_assoc]
  · simp [hp]

theorem tailBits2_eq_false_iff : ∀ v : Idx, (v.setWidth 8 &&& (0xF : Byte) != 0) = false ↔ v.toNat % 16 = 0 := by decide

theorem tailBits1_eq_false_iff : ∀ v : Idx, (v.setWidth 8 &&& (0x3 : Byte) != 0) = false ↔ v.toNat % 4 = 0 := by decide

/-- The last group is accepted in three shapes: four symbols, or one or two `=` after symbols whose tail bits are zero. -/
theorem accepted_last {c0 c1 c2 c3 : Byte} {p : Nat} : Accepted [c0, c1, c2, c3] p ↔
    ∃ v0 v1, cls c0 = .val v0 ∧ cls c1 = .val v1 ∧
      ((p = 0 ∧ ∃ v2 v3, cls c2 = .val v2 ∧ cls c3 = .val v3) ∨
       (p = 1 ∧ ∃ v2, cls c2 = .val v2 ∧ cls c3 = .pad ∧ v2.toNat % 4 = 0) ∨
       (p = 2 ∧ cls c2 = .pad ∧ cls c3 = .pad ∧ v1.toNat % 16 = 0)) := by
  have htwo (hp : p ≤ 2) := symbolsThenPads_cons_of_le (c := c1) (r := [c2, c3]) hp
  have hthree (hp : p ≤ 2) := symbolsThenPads_cons_of_le (c := c0) (r := [c1, c2, c3]) (Nat.le_succ_of_le hp)
  unfold Accepted
  constructor
  · rintro ⟨hp, hs, htail⟩
    rw [hthree hp, htwo hp] at hs
    obtain ⟨⟨v0, h0⟩, ⟨v1, h1⟩, hs⟩ := hs
    refine ⟨v0, v1, h0, h1, ?_⟩
    simp only [symbolsThenPads_cons, symbolsThenPads_nil] at hs
    rcases hs with ⟨⟨v2, h2⟩, ⟨⟨v3, h3⟩, rfl⟩ | ⟨rfl, -, rfl⟩⟩ | ⟨rfl, h3, rfl⟩
    · exact .inl ⟨rfl, v2, v3, h2, h3⟩
    · refine .inr (.inl ⟨rfl, v2, h2, cls_padChar, (tailBits1_eq_false_iff v2).1 ?_⟩)
      simpa [tailBitsBad, byteOf, cls_eq_val.1 h2] using htail
    · obtain rfl : c3 = Config.padChar := by simpa using h3
      refine .inr (.inr ⟨rfl, cls_padChar, cls_padChar, (tailBits2_eq_false_iff v1).1 ?_⟩)
      simpa [tailBitsBad, byteOf, cls_eq_val.1 h1] using htail
  · rintro ⟨v0, v1, h0, h1, ⟨rfl, v2, v3, h2, h3⟩ | ⟨rfl, v2, h2, h3, htail⟩ | ⟨rfl, h2, h3, htail⟩⟩
    · exact ⟨by omega, ⟨[c0, c1, c2, c3], by simp [h0, h1, h2, h3], rfl⟩, rfl⟩
    · refine ⟨by omega, ⟨[c0, c1, c2], by simp [h0, h1, h2], by rw [eq_padChar_of_cls h3]; rfl⟩, ?_⟩
      have hbits := (tailBits1_eq_false_iff v2).2 htail
      simpa [tailBitsBad, byteOf, cls_eq_val.1 h2] using hbits
    · refine ⟨by omega, ⟨[c0, c1], by simp [h0, h1], by rw [eq_padChar_of_cls h2, eq_padChar_of_cls h3]; rfl⟩, ?_⟩
      have hbits := (tailBits2_eq_false_iff v1).2 htail
      simpa [tailBitsBad, byteOf, cls_eq_val.1 h1] using hbits

/-! ## Encoding and decoding of a group -/

theorem repackAll_group (c0 c1 c2 c3 : Byte) (r : List Byte) :
    repackAll (c0 :: c1 :: c2 :: c3 :: r) = groupBytes c0 c1 c2 c3 ++ repackAll r := rfl

/-- Four symbols are the encoding of their three bytes, whatever comes after them (R108). -/
theorem enc_groupBytes_of_symbols {c0 c1 c2 c3 : Byte} (h : Symbols [c0, c1, c2, c3]) (b : List Byte) :
    enc (groupBytes c0 c1 c2 c3 ++ b) = c0 :: c1 :: c2 :: c3 :: enc b := by
  simp only [symbols_cons, symbols_nil, and_true] at h
  obtain ⟨⟨v0, h0⟩, ⟨v1, h1⟩, ⟨v2, h2⟩, ⟨v3, h3⟩⟩ := h
  obtain ⟨hf0, hf1, hf2, hf3⟩ := fields_of_bytes v0 v1 v2 v3
  rw [groupBytes_full h0 h1 h2 h3, eq_encLut_of_cls h0, eq_encLut_of_cls h1, eq_encLut_of_cls h2, eq_encLut_of_cls h3]
  simp only [List.cons_append, List.nil_append, enc_group, hf0, hf1, hf2, hf3]

/-- An accepted last group is the encoding of its bytes. -/
theorem enc_groupBytes_of_accepted {c0 c1 c2 c3 : Byte} {p : Nat} (h : Accepted [c0, c1, c2, c3] p) :
    enc (groupBytes c0 c1 c2 c3) = [c0, c1, c2, c3] := by
  obtain ⟨v0, v1, h0, h1, ⟨-, v2, v3, h2, h3⟩ | ⟨-, v2, h2, h3, htail⟩ | ⟨-, h2, h3, htail⟩⟩ := accepted_last.1 h
  · have henc := enc_groupBytes_of_symbols (c0 := c0) (c1 := c1) (c2 := c2) (c3 := c3) (by simp [h0, h1, h2, h3]) []
    simpa using henc
  · obtain ⟨hf0, hf1, -, -⟩ := fields_of_bytes v0 v1 v2 0
    rw [groupBytes_one_pad h0 h1 h2 h3, enc_two, hf0, hf1, idx2_byte1_zero htail, eq_encLut_of_cls h0, eq_encLut_of_cls h1,
      eq_encLut_of_cls h2, eq_padChar_of_cls h3]
  · obtain ⟨hf0, -, -, -⟩ := fields_of_bytes v0 v1 0 0
    rw [groupBytes_two_pads h0 h1 h2 h3, enc_one, hf0, idx1_byte0_zero htail, eq_encLut_of_cls h0, eq_encLut_of_cls h1,
      eq_padChar_of_cls h2, eq_padChar_of_cls h3]

/-- An accepted string is the encoding of its bytes (R114). -/
theorem enc_repackAll_of_accepted {s : List Byte} {p : Nat} (hmul : s.length % 4 = 0) (h : Accepted s p) :
    enc (repackAll s) = s := by
  refine charGroups_induction (P := fun s => Accepted s p → enc (repackAll s) = s) ?nil ?group s hmul h
  case nil => exact fun _ => rfl
  case group =>
    intro c0 c1 c2 c3 r hr ih h
    rw [repackAll_group]
    rcases Nat.eq_zero_or_pos r.length with hz | hpos
    · obtain rfl := List.length_eq_zero_iff.1 hz
      simpa [repackAll] using enc_groupBytes_of_accepted h
    · obtain ⟨hsym, hrest⟩ := (accepted_group (by omega)).1 h
      rw [enc_groupBytes_of_symbols hsym, ih hrest]

/-- Four symbols before an accepted string, or alone, make an accepted string. -/
theorem accepted_of_symbols {c0 c1 c2 c3 : Byte} {r : List Byte} {p : Nat} (hmul : r.length % 4 = 0)
    (hsym : Symbols [c0, c1, c2, c3]) (h : Accepted r p) : Accepted (c0 :: c1 :: c2 :: c3 :: r) p := by
  rcases Nat.eq_zero_or_pos r.length with hz | hpos
  · obtain rfl := List.length_eq_zero_iff.1 hz
    obtain ⟨-, hs, -⟩ := h
    obtain rfl := symbolsThenPads_nil.1 hs
    exact ⟨by omega, ⟨_, hsym, (List.append_nil _).symm⟩, rfl⟩
  · exact (accepted_group (by omega)).2 ⟨hsym, h⟩

/-- An encoding is accepted, and its groups give the bytes back (R113). -/
theorem accepted_enc (b : List Byte) : (∃ p, Accepted (enc b) p) ∧ repackAll (enc b) = b := by
  induction b using byteGroups_induction with
  | nil => exact ⟨⟨0, by decide, symbolsThenPads_nil.2 rfl, rfl⟩, rfl⟩
  | one b0 =>
    obtain ⟨hb0, -, -⟩ := bytes_of_fields b0 0 0
    rw [enc_one]
    refine ⟨⟨2, accepted_last.2 ⟨_, _, cls_encLut _, cls_encLut _, ?shape⟩⟩, ?bytes⟩
    case shape => exact .inr (.inr ⟨rfl, cls_padChar, cls_padChar, toNat_idx1_zero_mod b0⟩)
    case bytes =>
      rw [repackAll_group, groupBytes_two_pads (cls_encLut _) (cls_encLut _) cls_padChar cls_padChar, hb0]
      rfl
  | two b0 b1 =>
    obtain ⟨hb0, hb1, -⟩ := bytes_of_fields b0 b1 0
    rw [enc_two]
    refine ⟨⟨1, accepted_last.2 ⟨_, _, cls_encLut _, cls_encLut _, ?shape⟩⟩, ?bytes⟩
    case shape => exact .inr (.inl ⟨rfl, _, cls_encLut _, cls_padChar, toNat_idx2_zero_mod b1⟩)
    case bytes =>
      rw [repackAll_group, groupBytes_one_pad (cls_encLut _) (cls_encLut _) (cls_encLut _) cls_padChar, hb0, hb1]
      rfl
  | group b0 b1 b2 r ih =>
    obtain ⟨hb0, hb1, hb2⟩ := bytes_of_fields b0 b1 b2
    obtain ⟨⟨p, hacc⟩, hbytes⟩ := ih
    have hmul : (enc r).length % 4 = 0 := by simp [encM]
    rw [enc_group]
    refine ⟨⟨p, accepted_of_symbols hmul (by simp [cls_encLut]) hacc⟩, ?_⟩
    rw [repackAll_group, groupBytes_full (cls_encLut _) (cls_encLut _) (cls_encLut _) (cls_encLut _), hb0, hb1, hb2, hbytes]
    rfl

/-! ## The round trip -/

/-- Settles O39: an encoding is accepted and its groups give the bytes back. -/
theorem roundTrip : Obligations.RoundTrip := by
  unfold Obligations.RoundTrip
  intro b
  obtain ⟨hacc, hbytes⟩ := accepted_enc b
  exact dec_eq_ok_iff.2 ⟨by simp [encM], hacc, hbytes⟩

theorem dec_eq_ok_iff_eq_enc {s out : List Byte} : dec s = .ok out ↔ s = enc out := by
  constructor
  · intro h
    obtain ⟨hmul, ⟨p, hacc⟩, rfl⟩ := dec_eq_ok_iff.1 h
    exact (enc_repackAll_of_accepted hmul hacc).symm
  · rintro rfl
    exact roundTrip out

/-- Settles O40: an accepted string is the encoding of its bytes, so that each determines the other. -/
theorem acceptsExactlyTheCanonicalStrings : Obligations.AcceptsExactlyTheCanonicalStrings := by
  unfold Obligations.AcceptsExactlyTheCanonicalStrings
  refine ⟨fun s out => dec_eq_ok_iff_eq_enc, fun s s' out h h' => ?_, fun b b' h => ?_⟩
  · rw [dec_eq_ok_iff_eq_enc.1 h, dec_eq_ok_iff_eq_enc.1 h']
  · have hdec := roundTrip b
    rw [h, roundTrip b'] at hdec
    injection hdec with hbytes
    exact hbytes.symm

end Sys2Proof.Machine
end

section
/-! PROOFS. START taken and ignored (O28, O29, O30; 40_commands.md R101 to R103), and the host's read of `U.OUT` (O53;
40_commands.md R100, 20_memory.md R61, 70_reset_and_hazards.md R229). -/

namespace Sys2Proof.Machine

/-! ## START -/

/-- An accepted `ENC.START` (R101). -/
theorem execEncStart_of_accepted {s : State} {len : Nat} (hb : encBusy s = false) (hu : s.unsupported .enc = false)
    (hlen : Config.lenInBound s.lenW .enc len = true) : execEncStart len s = .next (s.setEnc (EncRegs.started len)) :=
  execEncStart_eq_next.2 (.inr ⟨hb, hu, hlen, rfl⟩)

/-- An accepted `DEC.START` (R102). -/
theorem execDecStart_of_accepted {s : State} {len : Nat} (hb : decBusy s = false) (hu : s.unsupported .dec = false)
    (hlen : Config.lenInBound s.lenW .dec len = true) : execDecStart len s = .next (s.setDec (DecRegs.started len)) :=
  execDecStart_eq_next.2 (.inr ⟨hb, hu, hlen, rfl⟩)

/-- Settles O28: START writes the registers of `EncRegs.started`, whose state is `RUN`. -/
theorem encStartBeginsAnOperation : Obligations.EncStartBeginsAnOperation := by
  unfold Obligations.EncStartBeginsAnOperation
  exact fun s len hb hu hlen => ⟨(exec_encStart len s).trans (execEncStart_of_accepted hb hu hlen), rfl, rfl⟩

/-- Settles O29: START writes the registers of `DecRegs.started`, busy and without an error. -/
theorem decStartBeginsAnOperation : Obligations.DecStartBeginsAnOperation := by
  unfold Obligations.DecStartBeginsAnOperation
  refine fun s len hb hu hlen => ⟨(exec_decStart len s).trans (execDecStart_of_accepted hb hu hlen), ?_⟩
  exact (status_of_flags (u := .dec) (e := 0) (d := false) (b := true) rfl rfl rfl).trans (by decide)

/-- Settles O30: the first case of each START. -/
theorem startWhileBusyIsIgnored : Obligations.StartWhileBusyIsIgnored := by
  unfold Obligations.StartWhileBusyIsIgnored
  refine fun s len => ⟨fun hb => ?_, fun hb => ?_⟩
  · exact (exec_encStart len s).trans (execEncStart_eq_next.2 (.inl ⟨hb, rfl⟩))
  · exact (exec_decStart len s).trans (execDecStart_eq_next.2 (.inl ⟨hb, rfl⟩))

/-! ## The host's read of `U.OUT` -/

/-- By address the host reaches the only `OUT` entry placed there (R58, log 18). -/
theorem hostBusRead_of_outEntry {s : State} {u : UnitId} {a k : Nat} (h : s.readableAt a = [.entry (outSpace u) k]) :
    hostBusRead a s = hostReadOut u k s := by
  cases u <;> simp only [hostBusRead, h, outSpace]

/-- The output read that a step takes, by index or by address, in the state less the input. -/
theorem step_of_outputRead {s : State} {u : UnitId} {k : Nat} {rest : List Input}
    (h : s.agenda = .readOut u k :: rest ∨
      ∃ a, s.agenda = .busRead a :: rest ∧ s.readableAt a = [.entry (outSpace u) k]) :
    step s = hostReadOut u k { s with agenda := rest } := by
  rcases h with hs | ⟨a, hs, hplaced⟩
  · exact step_of_input_other hs rfl
  · exact step_of_input_other hs
      (congrArg Fetched.other (hostBusRead_of_outEntry (s := { s with agenda := rest }) hplaced))

/-- A result is read where the unit is done and the other unit is not writing the byte. -/
theorem State.readable_iff {s : State} {u : UnitId} {k : Nat} : s.readable u k = true ↔
    done u s = true ∧ (busy (otherUnit u) s && s.touches (outSpace u) k (outSpace (otherUnit u))) = false := by
  rw [State.readable, Bool.and_eq_true, Bool.not_eq_true']

theorem hostReadOut_of_readable {s : State} {u : UnitId} {k : Nat} (h : s.readable u k = true)
    (hk : s.holds (outSpace u) k = true) :
    hostReadOut u k s = .next (answerHost (s.byteAt (outSpace u) k).toNat s) := by
  rw [hostReadOut, if_pos h, memRead_of_holds hk]

theorem hostReadOut_of_not_readable {s : State} {u : UnitId} {k : Nat} (h : s.readable u k ≠ true) :
    hostReadOut u k s = .next (answerHost (Config.earlyByte s.fresh).toNat s.draw) := by
  rw [hostReadOut, if_neg h]

/-- Settles O53: the step is the host's read of the entry, which answers the byte or a free value. -/
theorem hostReadsTheOutputBuffer : Obligations.HostReadsTheOutputBuffer := by
  unfold Obligations.HostReadsTheOutputBuffer
  intro s u k rest hread used
  rw [step_of_outputRead hread]
  let t : State := { s with agenda := rest }
  have hreadable : t.readable u k = true ↔ done u s = true ∧ used = false := by
    have h := State.readable_iff (s := t) (u := u) (k := k)
    cases u <;> exact h
  refine ⟨fun hdone hfree hheld => ?_, fun hopen => ⟨Config.earlyByte s.fresh, ?_⟩⟩
  · exact hostReadOut_of_readable (hreadable.2 ⟨hdone, hfree⟩) hheld
  · refine hostReadOut_of_not_readable (s := t) fun h => ?_
    obtain ⟨hdone, hfree⟩ := hreadable.1 h
    simp [hdone, hfree] at hopen

end Sys2Proof.Machine
end

section
/-! PROOFS. What a run of a unit keeps: every byte outside those it writes, every entry, the parameters and the model's own fields
(40_commands.md R104, R106; 70_reset_and_hazards.md R231). -/

namespace Sys2Proof.Machine

/-- Every byte outside `written`, every entry, the parameters and the model's own fields are as before. -/
structure Kept (s t : State) (written : Space → Nat → Prop) : Prop where
  bytes : BytesKept s t written
  model : ModelKept s t

namespace Kept

variable {s t : State} {written : Space → Nat → Prop}

theorem refl (s : State) (written : Space → Nat → Prop) : Kept s s written :=
  ⟨⟨fun _ _ _ => rfl, fun _ _ => rfl, fun _ _ => rfl⟩, rfl, rfl, rfl, rfl, rfl, rfl, rfl⟩

theorem bufMap (h : Kept s t written) : t.bufMap = s.bufMap := by
  obtain ⟨-, -, -, hmap, -⟩ := h
  exact hmap

theorem holds (h : Kept s t written) (sp : Space) (k : Nat) : t.holds sp k = s.holds sp k := by
  obtain ⟨⟨-, -, hheld⟩, -⟩ := h
  exact hheld sp k

theorem setEnc (h : Kept s t written) (r : EncRegs) : Kept s (t.setEnc r) written := by
  obtain ⟨⟨hbytes, hsys, hheld⟩, hmodel⟩ := h
  exact ⟨⟨by simpa using hbytes, by simpa using hsys, by simpa using hheld⟩, hmodel⟩

theorem setDec (h : Kept s t written) (r : DecRegs) : Kept s (t.setDec r) written := by
  obtain ⟨⟨hbytes, hsys, hheld⟩, hmodel⟩ := h
  exact ⟨⟨by simpa using hbytes, by simpa using hsys, by simpa using hheld⟩, hmodel⟩

/-- A write of an entry that counts as written, with all that share its address (R231). -/
theorem setByte (h : Kept s t written) {sp : Space} {k : Nat} (hk : ∀ sp₂ j, s.sameEntry sp k sp₂ j = true → written sp₂ j)
    (v : Byte) : Kept s (t.setByte sp k v) written := by
  have hmap := h.bufMap
  obtain ⟨⟨hbytes, hsys, hheld⟩, hmodel⟩ := h
  refine ⟨⟨fun sp₂ j hj => ?_, fun a ha => ?_, fun sp₂ j => by rw [State.holds_setByte, hheld]⟩, ?_⟩
  · have hne : t.sameEntry sp k sp₂ j = false := by
      rw [State.sameEntry_congr hmap]
      exact Bool.eq_false_of_not_eq_true fun hsame => hj (hk sp₂ j hsame)
    rw [State.byteAt_setByte_of_ne t hne, hbytes sp₂ j hj]
  · have hne : t.addrOf sp k ≠ some a := fun hat => by
      rw [State.addrOf_congr hmap] at hat
      exact Bool.false_ne_true ((ha sp).symm.trans (State.placedIn_of_addrOf hat))
    rw [State.sysByte_setByte_of_ne t hne, hsys a ha]
  · simpa [ModelKept] using hmodel

/-- A write of several entries in the range that counts as written. -/
theorem writeBytes {sp : Space} {lo n k : Nat} {l : List Byte} (h : Kept s t (entries s sp lo n)) (hlo : lo ≤ k)
    (hhi : k + l.length ≤ lo + n) : Kept s (t.writeBytes sp k l) (entries s sp lo n) := by
  induction l generalizing t k with
  | nil => exact h
  | cons v l ih =>
    rw [List.length_cons] at hhi
    exact ih (h.setByte (fun sp₂ j hsame => ⟨k, hlo, by omega, hsame⟩) v) (by omega) (by omega)

/-- A buffer that does not overlap the one written reads as before. -/
theorem bytes_eq {sp sp₂ : Space} {lo n : Nat} (h : Kept s t (entries s sp lo n)) (hne : sp ≠ sp₂)
    (hov : s.overlap sp sp₂ = false) (m : Nat) : t.bytes sp₂ m = s.bytes sp₂ m := by
  obtain ⟨⟨hbytes, -⟩, -⟩ := h
  refine State.bytes_eq_iff.2 fun k _ => hbytes sp₂ k ?_
  rintro ⟨j, -, -, hsame⟩
  exact Bool.false_ne_true ((State.sameEntry_of_overlap hne hov j k).symm.trans hsame)

end Kept

/-- Whether a unit's placement is supported depends on the placement and on whether the other unit is busy (R231). -/
theorem State.unsupported_congr {s t : State} {u : UnitId} (hmap : t.bufMap = s.bufMap)
    (hb : busy (otherUnit u) t = busy (otherUnit u) s) : t.unsupported u = s.unsupported u := by
  simp only [State.unsupported, State.overlap_congr hmap, State.unitsOverlap_congr hmap, hb]

@[simp] theorem State.length_bytes (s : State) (sp : Space) (n : Nat) : (s.bytes sp n).length = n := by simp [State.bytes]

theorem State.byteOf_bytes {s : State} {sp : Space} {n k : Nat} (h : k < n) : byteOf (s.bytes sp n) k = s.byteAt sp k := by
  simp [byteOf, State.bytes, List.getD_eq_getElem?_getD, h]

end Sys2Proof.Machine
end

section
/-! PROOFS. `ENCODE` computes `enc` (O34; 40_commands.md R104, 41_encoder.md R130): each writing step of the run adds the next
character of `enc` of the input bytes. -/

namespace Sys2Proof.Machine

/-! ## A run of the encoder -/

/-- A run of the encoder whose steps complete and keep `P` comes to rest, within the steps left. -/
theorem encRun_comesToRest {P : State → Prop}
    (hstep : ∀ u, P u → encBusy u = true →
      encStep u = .next u.encNext ∧ P u.encNext ∧ u.encNext.encStepsLeft < u.encStepsLeft)
    {s : State} {k : Nat} (hs : P s) (hk : s.encStepsLeft ≤ k) : ∃ t, encRun k s = .next t ∧ P t ∧ encBusy t = false := by
  induction k generalizing s with
  | zero =>
    refine ⟨s, rfl, hs, Bool.eq_false_of_not_eq_true fun hb => ?_⟩
    rw [encStepsLeft_of_run (encBusy_iff.1 hb)] at hk
    omega
  | succ k ih =>
    cases hb : encBusy s with
    | false => exact ⟨s, encRun_of_rest hb _, hs, hb⟩
    | true =>
      obtain ⟨hnext, hkeep, hless⟩ := hstep s hs hb
      obtain ⟨t, hrun, ht⟩ := ih hkeep (by omega)
      exact ⟨t, by rw [encRun_succ_of_busy hb, hnext]; exact hrun, ht⟩

theorem enc_st_eq_done {s : State} (hidle : s.enc.st ≠ .idle) (hb : encBusy s = false) : s.enc.st = .done := by
  cases hst : s.enc.st with
  | idle => exact absurd hst hidle
  | run => simp [encBusy, hst] at hb
  | done => rfl

/-- The registers of an encoder that is done (R128). -/
theorem EncInv.enc_of_done {s : State} (h : EncInv s) (hst : s.enc.st = .done) :
    s.enc = { st := .done, len := s.enc.len, o := s.encM, outLen := s.encM } := by
  obtain ⟨-, hm⟩ := h
  obtain ⟨ho, hout⟩ : s.enc.o = s.encM ∧ s.enc.outLen = s.encM := by simpa only [hst] using hm
  change EncRegs.mk s.enc.st s.enc.len s.enc.o s.enc.outLen = _
  rw [hst, ho, hout]

/-- A step of a running encoder does not make it idle. -/
theorem State.encNext_st_ne_idle {s : State} (hrun : s.enc.st = .run) (ho : s.enc.o ≤ s.encM) : s.encNext.enc.st ≠ .idle := by
  rcases Nat.lt_or_eq_of_le ho with hlt | heq
  · simp [State.encNext_enc_of_lt hlt, hrun]
  · simp [State.encNext_enc_of_eq heq]

/-- A running encoder writes `ENC.OUT` in the range of its characters only. -/
theorem Kept.encNext {s t : State} {m : Nat} (h : Kept s t (entries s .encOut 0 m)) (ho : t.enc.o ≤ t.encM)
    (hm : t.encM = m) : Kept s t.encNext (entries s .encOut 0 m) := by
  unfold State.encNext
  split
  · exact h.setEnc _
  · next hne => exact (h.setByte (fun sp j hsame => ⟨t.enc.o, by omega, by omega, hsame⟩) _).setEnc _

/-- Where all input bytes and output entries of its operation exist, so do those of the encoder's next step (R34, R120). The
decoder has no part in it and may be thought at rest. -/
theorem State.encHeld_of_holds {s : State} (hin : ∀ k, k < s.enc.len → s.holds .encIn k = true)
    (hout : ∀ k, k < s.encM → s.holds .encOut k = true) (hb : encBusy s = true) : s.EncHeld :=
  Provided.encHeld (s := s.setDec DecRegs.reset) ⟨fun _ => ⟨hin, hout⟩, fun h => by cases h⟩ hb

/-- The next character is that of `enc` of the input bytes (R129, R130). -/
theorem State.encNextChar_eq_encChar {s : State} (ho : s.enc.o < s.encM) :
    s.encNextChar = encChar (s.bytes .encIn s.enc.len) s.enc.o := by
  have hlo := (State.encRem_of_lt ho).1
  simp only [State.encRem, State.encBase] at hlo
  have hb1 (h : 2 ≤ s.encRem) :
      byteOf (s.bytes .encIn s.enc.len) (s.encBase + 1) = s.byteAt .encIn (s.encBase + 1) :=
    State.byteOf_bytes (by simp only [State.encRem, State.encBase] at h ⊢; omega)
  have hb2 (h : s.encRem = 3) :
      byteOf (s.bytes .encIn s.enc.len) (s.encBase + 2) = s.byteAt .encIn (s.encBase + 2) :=
    State.byteOf_bytes (by simp only [State.encRem, State.encBase] at h ⊢; omega)
  have hb0 : byteOf (s.bytes .encIn s.enc.len) s.encBase = s.byteAt .encIn s.encBase :=
    State.byteOf_bytes (by simp only [State.encBase]; omega)
  simp only [encChar, State.length_bytes]
  change _ = if s.encSel ≤ s.encRem then
    encLut (encIdx s.encSel (byteOf _ s.encBase) (if 2 ≤ s.encRem then byteOf _ (s.encBase + 1) else 0)
      (if s.encRem = 3 then byteOf _ (s.encBase + 2) else 0)) else Config.padChar
  simp +contextual only [State.encNextChar, State.encGroupBytes, hb0, hb1, hb2]

/-! ## `ENCODE` -/

/-- What O34 asks of a state before `ENCODE n`: the START is accepted and every entry it uses exists. -/
structure EncodeReady (s : State) (n : Nat) : Prop where
  rest : encBusy s = false
  supported : s.unsupported .enc = false
  inBound : Config.lenInBound s.lenW .enc n = true
  input : ∀ k, k < n → s.holds .encIn k = true
  output : ∀ k, k < encM n → s.holds .encOut k = true

/-- `u` is a state of the `ENCODE n` that began in `s`: the characters before `ENC.o` are those of `enc` (R130). -/
structure Encoding (s : State) (n : Nat) (u : State) : Prop where
  inv : EncInv u
  started : u.enc.st ≠ .idle
  len : u.enc.len = n
  dec : u.dec = s.dec
  kept : Kept s u (entries s .encOut 0 (encM n))
  chars : ∀ k, k < u.enc.o → u.byteAt .encOut k = encChar (s.bytes .encIn n) k

theorem encoding_started {s : State} {n : Nat} (h : EncodeReady s n) : Encoding s n (s.setEnc (EncRegs.started n)) where
  inv := ⟨h.inBound, Nat.zero_le _, rfl⟩
  started := by simp [EncRegs.started]
  len := rfl
  dec := rfl
  kept := (Kept.refl s _).setEnc _
  chars k hk := absurd hk (Nat.not_lt_zero k)

section
variable {s u : State} {n : Nat}

theorem Encoding.encM_eq (h : Encoding s n u) : u.encM = encM n := by rw [State.encM, h.len]

/-- The input bytes are as before: `ENC.IN` and `ENC.OUT` do not overlap (R231). -/
theorem Encoding.input_eq (h : Encoding s n u) (hs : EncodeReady s n) : u.bytes .encIn n = s.bytes .encIn n :=
  h.kept.bytes_eq (by decide) ((s.overlap_comm _ _).trans (State.unsupported_enc_eq_false.1 hs.supported).1) n

/-- A step of the running encoder adds the next character, or ends the operation. -/
theorem Encoding.encNext (h : Encoding s n u) (hs : EncodeReady s n) (hb : encBusy u = true) : Encoding s n u.encNext := by
  have hrun := encBusy_iff.1 hb
  have ho := (h.inv.of_run hrun).1
  refine ⟨h.inv.encNext hrun, State.encNext_st_ne_idle hrun ho, by simp [h.len], by simp [h.dec],
    h.kept.encNext ho h.encM_eq, fun k hk => ?_⟩
  rcases Nat.lt_or_eq_of_le ho with hlt | heq
  · rw [State.encNext_byteAt_encOut hlt]
    split
    · next hk => rw [hk, State.encNextChar_eq_encChar hlt, h.len, h.input_eq hs]
    · next hne => exact h.chars k (by simp only [State.encNext_enc_of_lt hlt] at hk; omega)
  · rw [State.encNext_byteAt_of_eq heq]
    exact h.chars k (by simpa [State.encNext_enc_of_eq heq] using hk)

theorem Encoding.encStep_eq (h : Encoding s n u) (hs : EncodeReady s n) (hb : encBusy u = true) :
    encStep u = .next u.encNext ∧ Encoding s n u.encNext ∧ u.encNext.encStepsLeft < u.encStepsLeft := by
  have hrun := encBusy_iff.1 hb
  have ho := (h.inv.of_run hrun).1
  have hsupp : u.unsupported .enc = false :=
    (State.unsupported_congr h.kept.bufMap (by simp only [otherUnit, busy, decBusy, h.dec])).trans hs.supported
  have hheld : u.EncHeld := State.encHeld_of_holds
    (fun k hk => (h.kept.holds _ k).trans (hs.input k (h.len ▸ hk)))
    (fun k hk => (h.kept.holds _ k).trans (hs.output k (h.encM_eq ▸ hk))) hb
  exact ⟨(encStep_eq_next hrun ho).2 ⟨hsupp, hheld, rfl⟩, h.encNext hs hb, encStepsLeft_encNext_lt hrun ho⟩

/-- At rest the operation is done. -/
theorem Encoding.st_of_rest (h : Encoding s n u) (hb : encBusy u = false) : u.enc.st = .done :=
  enc_st_eq_done h.started hb

/-- At rest the registers hold the length and the output holds `enc` of the input. -/
theorem Encoding.result_of_rest (h : Encoding s n u) (hb : encBusy u = false) :
    u.enc = { st := .done, len := n, o := encM n, outLen := encM n } ∧ u.bytes .encOut (encM n) = enc (s.bytes .encIn n) := by
  have henc := h.inv.enc_of_done (h.st_of_rest hb)
  rw [h.len, h.encM_eq] at henc
  refine ⟨henc, ?_⟩
  simp only [State.bytes, enc, List.length_map, List.length_range]
  exact List.map_congr_left fun k hk => h.chars k (by rw [henc]; exact List.mem_range.1 hk)

end

/-- `ENCODE` of a unit that is ready completes (R104). -/
theorem exists_execEncodeOp {s : State} {n : Nat} (hs : EncodeReady s n) :
    ∃ t, execEncodeOp n s = .next t ∧ Encoding s n t ∧ encBusy t = false := by
  obtain ⟨t, hrun, ht⟩ := encRun_comesToRest (P := Encoding s n) (fun u hu hb => hu.encStep_eq hs hb) (encoding_started hs)
    (k := encBudget (s.setEnc (EncRegs.started n))) (encStepsLeft_of_run rfl).le
  exact ⟨t, andThen_eq_next.2 ⟨_, execEncStart_of_accepted hs.rest hs.supported hs.inBound, hrun⟩, ht⟩

/-- Settles O34: START begins an `Encoding`, every step keeps it, and at rest it is the result. -/
theorem encodeComputesEnc : Obligations.EncodeComputesEnc := by
  unfold Obligations.EncodeComputesEnc
  intro s n hb hu hlen hin hout m
  obtain ⟨t, hexec, ht, hrest⟩ := exists_execEncodeOp ⟨hb, hu, hlen, hin, hout⟩
  obtain ⟨henc, hresult⟩ := ht.result_of_rest hrest
  exact ⟨t, (exec_encodeOp n s).trans hexec, henc, ht.dec, hresult, ht.kept.bytes, ht.kept.model⟩

end Sys2Proof.Machine
end

section
/-! PROOFS. What the registers of a validating decoder say of `dec` (40_commands.md R106, 42_decoder_validation.md R141 to R149):
the scan is the loop of R106 resumed at `DEC.i`, and `DEC.tailbad` is its tail-bit condition. -/

namespace Sys2Proof.Machine

/-! ## The loop of R106, resumed -/

/-- What is left of `dec b` when the characters before index `i` have passed, `pad` of them `=` (R106). -/
def decFrom (b : List Byte) (i pad : Nat) : Except ErrKind (List Byte) :=
  match decScan b.length (b.drop i) i pad with
  | .error k => .error k
  | .ok p => if tailBitsBad b p then .error .invalidPaddingError else .ok (repackAll b)

theorem dec_eq_decFrom {b : List Byte} (hpos : b.length ≠ 0) (hmul : b.length % 4 = 0) : dec b = decFrom b 0 0 := by
  rw [dec, if_neg hpos, if_neg (not_not_intro hmul)]
  rfl

theorem drop_eq_byteOf_cons {b : List Byte} {i : Nat} (h : i < b.length) : b.drop i = byteOf b i :: b.drop (i + 1) := by
  rw [List.drop_eq_getElem_cons h]
  simp [byteOf, List.getD_eq_getElem?_getD, h]

section
variable {b : List Byte} {i pad : Nat}

theorem decFrom_of_val {v : Idx} (h : i < b.length) (hc : cls (byteOf b i) = .val v) :
    decFrom b i pad = if pad ≠ 0 then .error .invalidPaddingError else decFrom b (i + 1) pad := by
  by_cases hz : pad = 0 <;> simp [decFrom, drop_eq_byteOf_cons h, decScan, hc, hz]

theorem decFrom_of_pad (h : i < b.length) (hc : cls (byteOf b i) = .pad) :
    decFrom b i pad = if i + 2 < b.length then .error .invalidPaddingError else decFrom b (i + 1) (pad + 1) := by
  by_cases hearly : i + 2 < b.length <;> simp [decFrom, drop_eq_byteOf_cons h, decScan, hc, hearly]

theorem decFrom_of_inv (h : i < b.length) (hc : cls (byteOf b i) = .inv) :
    decFrom b i pad = .error .invalidCharacterError := by
  simp only [decFrom, drop_eq_byteOf_cons h, decScan, hc]

theorem decFrom_end : decFrom b b.length pad =
    if tailBitsBad b pad then .error .invalidPaddingError else .ok (repackAll b) := by
  simp only [decFrom, List.drop_length, decScan]

end

/-! ## The verdict -/

/-- What the decoder's registers say of `dec b`: nothing yet in `CHECK`, the loop up to `DEC.i` in `SCAN`, acceptance in
`REPACK`, and in `DONE` the error before any group or the acceptance after all of them (R106, R146, R175, R196). -/
def Verdict (b : List Byte) (r : DecRegs) : Prop :=
  match r.st with
  | .idle => False
  | .check => True
  | .scan => dec b = decFrom b r.i r.pad.val
  | .repack => dec b = .ok (repackAll b)
  | .done =>
    match r.err with
    | none => dec b = .ok (repackAll b) ∧ r.g = r.len / 4
    | some k => dec b = .error k ∧ r.g = 0

section
variable {b : List Byte} {r : DecRegs}

theorem Verdict.of_scan (h : Verdict b r) (hst : r.st = .scan) : dec b = decFrom b r.i r.pad.val := by
  simpa only [Verdict, hst] using h

theorem Verdict.of_repack (h : Verdict b r) (hst : r.st = .repack) : dec b = .ok (repackAll b) := by
  simpa only [Verdict, hst] using h

theorem Verdict.of_result (h : Verdict b r) (hst : r.st = .done) (herr : r.err = none) :
    dec b = .ok (repackAll b) ∧ r.g = r.len / 4 := by
  simpa only [Verdict, hst, herr] using h

theorem Verdict.of_error {k : ErrKind} (h : Verdict b r) (hst : r.st = .done) (herr : r.err = some k) :
    dec b = .error k ∧ r.g = 0 := by
  simpa only [Verdict, hst, herr] using h

theorem verdict_raised {k : ErrKind} (h : dec b = .error k) (hg : r.g = 0) : Verdict b (r.raised k) := ⟨h, hg⟩

/-- `DEC.CHECK` judges the length (R141). -/
theorem verdict_checked : Verdict b (DecRegs.started b.length).checked := by
  unfold DecRegs.checked
  split
  · next hz =>
    obtain rfl := List.length_eq_zero_iff.1 hz
    exact ⟨rfl, rfl⟩
  · next hpos =>
    split
    · next hmul => exact verdict_raised (by simp_all [dec, DecRegs.started]) rfl
    · next hmul => exact dec_eq_decFrom hpos (by simpa [DecRegs.started] using hmul)

/-- The scan of a character is one turn of the loop (R143 to R145). -/
theorem verdict_scanned (h : Verdict b r) (hst : r.st = .scan) (hg : r.g = 0) (hlen : r.len = b.length) (hi : r.i < b.length)
    (hpad : r.pad.val < 2) : Verdict b (r.scanned (cls (byteOf b r.i))) := by
  have hdec := h.of_scan hst
  cases hc : cls (byteOf b r.i) with
  | val v =>
    rw [decFrom_of_val hi hc] at hdec
    simp only [DecRegs.scanned]
    split
    · next hne =>
      have hval : r.pad.val ≠ 0 := fun hz => hne (Fin.ext hz)
      rw [if_pos hval] at hdec
      exact verdict_raised hdec hg
    · next hz =>
      rw [if_neg (by simpa using hz)] at hdec
      simpa only [Verdict, hst] using hdec
  | pad =>
    rw [decFrom_of_pad hi hc, ← hlen] at hdec
    simp only [DecRegs.scanned]
    split
    · next hearly =>
      rw [if_pos hearly] at hdec
      exact verdict_raised hdec hg
    · next hlast =>
      have hadd : (r.pad + 1).val = r.pad.val + 1 := Fin.val_add_one_of_lt' (by omega)
      rw [if_neg hlast] at hdec
      simpa only [Verdict, hst, hadd] using hdec
  | inv =>
    rw [decFrom_of_inv hi hc] at hdec
    exact verdict_raised hdec hg

/-- `DEC.SCAN.END` judges the tail bits (R146). -/
theorem verdict_judged (h : Verdict b r) (hst : r.st = .scan) (hg : r.g = 0) (hi : r.i = b.length)
    (htail : r.tailbad = tailBitsBad b r.pad.val) : Verdict b r.judged := by
  have hdec := h.of_scan hst
  rw [hi, decFrom_end, ← htail] at hdec
  unfold DecRegs.judged
  split
  · next hbad =>
    rw [if_pos hbad] at hdec
    exact verdict_raised hdec hg
  · next hgood =>
    rw [if_neg hgood] at hdec
    exact hdec

/-- `DEC.FINISH` comes after all groups (R175). -/
theorem verdict_finished (h : Verdict b r) (hst : r.st = .repack) (hg : r.g = r.len / 4) (herr : r.err = none) :
    Verdict b r.finished := by
  have hdec := h.of_repack hst
  simpa only [Verdict, DecRegs.finished, herr] using ⟨hdec, hg⟩

end

/-! ## The tail bits -/

theorem tailBad2_eq : ∀ v : Idx, tailBad2 v = (v.setWidth 8 &&& (0xF : Byte) != 0) := by decide

theorem tailBad1_eq : ∀ v : Idx, tailBad1 v = (v.setWidth 8 &&& (0x3 : Byte) != 0) := by decide

/-- After the scan `DEC.tailbad` is the tail-bit condition of R106: both look at the symbol before the `=` (R145, R149). -/
theorem Scanned.tailbad_eq {s : State} (h : Scanned s) (hi : s.dec.i = s.dec.len) :
    s.dec.tailbad = tailBitsBad (s.bytes .decIn s.dec.len) s.dec.pad.val := by
  obtain ⟨hpos, hmul, -, -, -, -, -, -, -, hprev, htail⟩ := h
  have hlt := s.dec.pad.isLt
  rw [htail, hi]
  rw [hi] at hprev
  have hentry : decLut (byteOf (s.bytes .decIn s.dec.len) (s.dec.len - s.dec.pad.val - 1)) = s.dec.prev.setWidth 8 := by
    rw [State.byteOf_bytes (by omega)]
    exact cls_eq_val.1 (hprev (by omega))
  unfold tailBitsBad tailJudgement
  rw [State.length_bytes]
  have hcases : s.dec.pad.val = 0 ∨ s.dec.pad.val = 1 ∨ s.dec.pad.val = 2 := by omega
  rcases hcases with hp | hp | hp
  · simp [hp]
  · have hne : ¬ s.dec.len - 1 + 2 = s.dec.len := by omega
    rw [hp, Nat.sub_sub] at hentry
    simp [hp, hne, hentry, tailBad1_eq]
  · have heq : s.dec.len - 2 + 2 = s.dec.len := by omega
    rw [hp, Nat.sub_sub] at hentry
    simp [hp, heq, hentry, tailBad2_eq]

end Sys2Proof.Machine
end

section
/-! PROOFS. `DECODE` computes `dec` (O35; 40_commands.md R106, 43_decoder_repack.md R178): the validation leaves `DEC.OUT` alone, and
each repack step adds the bytes of the next group. -/

namespace Sys2Proof.Machine

/-! ## A run of the decoder -/

theorem decStepsLeft_pos {s : State} (hb : decBusy s = true) : 0 < s.decStepsLeft := by
  cases hst : s.dec.st <;> simp [decBusy, State.decStepsLeft, hst] at hb ⊢

/-- A run of the decoder whose steps complete and keep `P` comes to rest, within the steps left. -/
theorem decRun_comesToRest {P : State → Prop}
    (hstep : ∀ u, P u → decBusy u = true →
      decStep u = .next u.decNext ∧ P u.decNext ∧ u.decNext.decStepsLeft < u.decStepsLeft)
    {s : State} {k : Nat} (hs : P s) (hk : s.decStepsLeft ≤ k) : ∃ t, decRun k s = .next t ∧ P t ∧ decBusy t = false := by
  induction k generalizing s with
  | zero =>
    refine ⟨s, rfl, hs, Bool.eq_false_of_not_eq_true fun hb => ?_⟩
    have := decStepsLeft_pos hb
    omega
  | succ k ih =>
    cases hb : decBusy s with
    | false => exact ⟨s, decRun_of_rest hb _, hs, hb⟩
    | true =>
      obtain ⟨hnext, hkeep, hless⟩ := hstep s hs hb
      obtain ⟨t, hrun, ht⟩ := ih hkeep (by omega)
      exact ⟨t, by rw [decRun_succ_of_busy hb, hnext]; exact hrun, ht⟩

theorem dec_st_eq_done {s : State} (hidle : s.dec.st ≠ .idle) (hb : decBusy s = false) : s.dec.st = .done := by
  cases hst : s.dec.st with
  | idle => exact absurd hst hidle
  | check => simp [decBusy, hst] at hb
  | scan => simp [decBusy, hst] at hb
  | repack => simp [decBusy, hst] at hb
  | done => rfl

/-- The budget of a run covers the steps left, in every state of the unit (R235). -/
theorem decStepsLeft_le_budget (s : State) : s.decStepsLeft ≤ decBudget s := by
  unfold State.decStepsLeft decBudget State.decNG
  cases s.dec.st <;> dsimp only <;> omega

/-! ## The groups of the input and the bytes of the output -/

/-- The groups from number `g` on: the next one and the rest (R106). -/
theorem repackAll_drop {b : List Byte} {g : Nat} (h : 4 * g + 4 ≤ b.length) : repackAll (b.drop (4 * g)) =
    groupBytes (byteOf b (4 * g)) (byteOf b (4 * g + 1)) (byteOf b (4 * g + 2)) (byteOf b (4 * g + 3)) ++
      repackAll (b.drop (4 * (g + 1))) := by
  rw [drop_eq_byteOf_cons (by omega), drop_eq_byteOf_cons (by omega), drop_eq_byteOf_cons (by omega),
    drop_eq_byteOf_cons (by omega), repackAll_group]
  rfl

theorem repackAll_of_short {l : List Byte} (h : l.length < 4) : repackAll l = [] := by
  match l, h with
  | [], _ => rfl
  | [_], _ => rfl
  | [_, _], _ => rfl
  | [_, _, _], _ => rfl

/-- Bytes written behind the first `k` of a buffer extend them. -/
theorem State.bytes_writeBytes (s : State) (sp : Space) (k : Nat) (l : List Byte) :
    (s.writeBytes sp k l).bytes sp (k + l.length) = s.bytes sp k ++ l := by
  have hlow : (s.writeBytes sp k l).bytes sp k = s.bytes sp k :=
    State.bytes_eq_iff.2 fun j hj => State.byteAt_writeBytes_of_lt hj l
  have hhigh : (List.range l.length).map (fun j => (s.writeBytes sp k l).byteAt sp (k + j)) = l := by
    refine List.ext_getElem (by simp) fun j _ hj => ?_
    simp [State.byteAt_writeBytes_add hj, byteOf, List.getD_eq_getElem?_getD, hj]
  rw [← hlow]
  simp only [State.bytes, List.range_add, List.map_append, List.map_map]
  exact congrArg _ hhigh

/-- The number of bytes of the first `DEC.g` groups: three each, less the `=` of the last (R107, R178). -/
def DecRegs.written (r : DecRegs) : Nat := min (3 * r.g) (decResultLen r.len r.pad.val)

theorem DecRegs.written_of_g_eq_zero {r : DecRegs} (h : r.g = 0) : r.written = 0 := by simp [DecRegs.written, h]

/-- While groups are left all before are full. -/
theorem written_of_lt {s : State} (hg : s.dec.g < s.decNG) : s.dec.written = 3 * s.dec.g := by
  have hpad := s.dec.pad.isLt
  unfold State.decNG at hg
  unfold DecRegs.written decResultLen
  omega

/-- After the last group the whole result is written. -/
theorem DecRegs.written_of_eq {r : DecRegs} (hg : r.g = r.len / 4) : r.written = decResultLen r.len r.pad.val := by
  unfold DecRegs.written decResultLen
  omega

/-- A group adds its bytes. -/
theorem written_succ {s : State} (hg : s.dec.g < s.decNG) (hshape : s.GroupShape) :
    s.decRepacked.dec.written = 3 * s.dec.g + s.decGroupBytes.length := by
  have hpad := s.dec.pad.isLt
  rw [hshape.length_decGroupBytes, State.decRepacked_dec]
  unfold State.decNG at hg
  unfold DecRegs.written decResultLen State.decGroupPad State.decNG
  dsimp only
  split <;> omega

theorem entries_mono {s : State} {sp sp₂ : Space} {lo m n k : Nat} (hmn : m ≤ n) (h : entries s sp lo m sp₂ k) :
    entries s sp lo n sp₂ k := by
  obtain ⟨j, hlo, hhi, hsame⟩ := h
  exact ⟨j, hlo, by omega, hsame⟩

theorem Kept.mono {s t : State} {W W' : Space → Nat → Prop} (h : Kept s t W) (hW : ∀ sp k, W sp k → W' sp k) :
    Kept s t W' := by
  obtain ⟨⟨hbytes, hrest⟩, hmodel⟩ := h
  exact ⟨⟨fun sp k hk => hbytes sp k fun h => hk (hW sp k h), hrest⟩, hmodel⟩

/-! ## `DECODE` -/

/-- What O35 asks of a state before `DECODE n`: the START is accepted and every entry it uses exists. -/
structure DecodeReady (s : State) (n : Nat) : Prop where
  rest : decBusy s = false
  supported : s.unsupported .dec = false
  inBound : Config.lenInBound s.lenW .dec n = true
  input : n % 4 = 0 → ∀ k, k < n → s.holds .decIn k = true
  output : ∀ out, dec (s.bytes .decIn n) = .ok out → ∀ k, k < out.length → s.holds .decOut k = true

/-- `u` is a state of the `DECODE n` that began in `s`: its registers say what they should of `dec` of the input, nothing is
written before the first group, and the bytes written are those of the first `DEC.g` groups (R178). -/
structure Decoding (s : State) (n : Nat) (u : State) : Prop where
  inv : DecInv u
  len : u.dec.len = n
  enc : u.enc = s.enc
  kept : Kept s u (entries s .decOut 0 u.dec.written)
  untouched : u.dec.g = 0 → u.decOut = s.decOut ∧ u.sysMem = s.sysMem
  verdict : Verdict (s.bytes .decIn n) u.dec
  output : u.bytes .decOut u.dec.written ++ repackAll ((s.bytes .decIn n).drop (4 * u.dec.g)) = repackAll (s.bytes .decIn n)

theorem decoding_started {s : State} {n : Nat} (h : DecodeReady s n) : Decoding s n (s.setDec (DecRegs.started n)) where
  inv := decInv_started h.inBound
  len := rfl
  enc := rfl
  kept := (Kept.refl s _).setDec _
  untouched _ := ⟨rfl, rfl⟩
  verdict := trivial
  output := by simp [DecRegs.written, DecRegs.started, State.bytes]

section
variable {s u : State} {n : Nat}

theorem Decoding.overlap_eq_false (h : Decoding s n u) (hs : DecodeReady s n) : u.overlap .decIn .decOut = false := by
  rw [State.overlap_congr h.kept.bufMap]
  exact (State.unsupported_dec_eq_false.1 hs.supported).1

/-- The input characters are as before: `DEC.IN` and `DEC.OUT` do not overlap (R231). -/
theorem Decoding.input_eq (h : Decoding s n u) (hs : DecodeReady s n) : u.bytes .decIn n = s.bytes .decIn n :=
  h.kept.bytes_eq (by decide) ((s.overlap_comm _ _).trans (State.unsupported_dec_eq_false.1 hs.supported).1) n

theorem Decoding.byteAt_decIn (h : Decoding s n u) (hs : DecodeReady s n) {k : Nat} (hk : k < n) :
    u.byteAt .decIn k = byteOf (s.bytes .decIn n) k := by
  rw [← h.input_eq hs, State.byteOf_bytes hk]

/-- The bytes of the current group are those of the input's group (R176). -/
theorem Decoding.decGroupBytes_append (h : Decoding s n u) (hs : DecodeReady s n) (hg : u.dec.g < u.decNG) :
    u.decGroupBytes ++ repackAll ((s.bytes .decIn n).drop (4 * (u.dec.g + 1))) =
      repackAll ((s.bytes .decIn n).drop (4 * u.dec.g)) := by
  rw [State.decNG, h.len] at hg
  rw [repackAll_drop (g := u.dec.g) (by rw [State.length_bytes]; omega)]
  simp only [State.decGroupBytes, h.byteAt_decIn hs (show 4 * u.dec.g < n by omega),
    h.byteAt_decIn hs (show 4 * u.dec.g + 1 < n by omega), h.byteAt_decIn hs (show 4 * u.dec.g + 2 < n by omega),
    h.byteAt_decIn hs (show 4 * u.dec.g + 3 < n by omega)]

/-- A write of the registers that leaves the number of bytes written keeps all but what it says of `dec` itself. -/
theorem Decoding.setDec (h : Decoding s n u) {r : DecRegs} (hinv : DecInv (u.setDec r)) (hlen : r.len = u.dec.len)
    (hg : r.g = u.dec.g) (hw : r.written = u.dec.written) (hv : Verdict (s.bytes .decIn n) r) :
    Decoding s n (u.setDec r) where
  inv := hinv
  len := hlen.trans h.len
  enc := h.enc
  kept := by simpa only [State.setDec_dec, hw] using h.kept.setDec r
  untouched hz := h.untouched (hg.symm.trans hz)
  verdict := hv
  output := by
    simp only [State.setDec_dec, hg, hw]
    exact h.output

/-- A step of the validation writes the registers only, before the first group. -/
theorem Decoding.validate (h : Decoding s n u) {r : DecRegs} (hinv : DecInv (u.setDec r)) (hr : u.dec.Validates r)
    (hg : u.dec.g = 0) (hv : Verdict (s.bytes .decIn n) r) : Decoding s n (u.setDec r) :=
  h.setDec hinv hr.len hr.g
    ((DecRegs.written_of_g_eq_zero (hr.g.trans hg)).trans (DecRegs.written_of_g_eq_zero hg).symm) hv

/-- A repack step adds the bytes of its group. -/
theorem Decoding.repack (h : Decoding s n u) (hs : DecodeReady s n) (hst : u.dec.st = .repack) (hg : u.dec.g < u.decNG) :
    Decoding s n u.decRepacked := by
  have hw := written_of_lt hg
  have hw' := written_succ hg (h.inv.groupShape hst hg)
  refine ⟨h.inv.repacked hst hg (h.overlap_eq_false hs), by simp [h.len], by simp [State.decRepacked, h.enc], ?_, ?_, ?_, ?_⟩
  · rw [hw']
    have hkept := h.kept.mono fun sp k => entries_mono (n := 3 * u.dec.g + u.decGroupBytes.length) (by omega)
    exact (hkept.writeBytes (Nat.zero_le _) (by omega)).setDec _
  · intro hz
    simp at hz
  · have hdec := h.verdict.of_repack hst
    simpa only [Verdict, State.decRepacked_dec, hst] using hdec
  · have hbytes : u.decRepacked.bytes .decOut (3 * u.dec.g + u.decGroupBytes.length) =
        u.bytes .decOut (3 * u.dec.g) ++ u.decGroupBytes := by
      rw [← State.bytes_writeBytes]
      exact State.bytes_eq_iff.2 fun k _ => State.setDecG_byteAt ..
    rw [hw', hbytes, State.decRepacked_dec, List.append_assoc, h.decGroupBytes_append hs hg, ← hw]
    exact h.output

/-- A step of the busy decoder keeps what is known of the run: one case for each state of R22. -/
theorem Decoding.decNext (h : Decoding s n u) (hs : DecodeReady s n) (hb : decBusy u = true) : Decoding s n u.decNext := by
  have ⟨_, hi, hg, _⟩ := h.inv
  have hnext := h.inv.decNext (h.overlap_eq_false hs)
  have hlen : u.dec.len = (s.bytes .decIn n).length := by rw [h.len, State.length_bytes]
  unfold State.decNext at hnext ⊢
  cases hst : u.dec.st with
  | idle => simp [decBusy, hst] at hb
  | done => simp [decBusy, hst] at hb
  | check =>
    simp only [hst] at hnext
    have hreg := h.inv.of_check hst
    refine h.validate hnext u.dec.validates_checked (by rw [hreg]; rfl) ?_
    rw [hreg, hlen]
    exact verdict_checked
  | scan =>
    obtain ⟨hscan, hg0⟩ := h.inv.of_scan hst
    simp only [hst] at hnext ⊢
    split
    · next hend =>
      rw [if_pos hend] at hnext
      refine h.validate hnext u.dec.validates_judged hg0 (verdict_judged h.verdict hst hg0 (hend.trans hlen) ?_)
      rw [hscan.tailbad_eq hend, h.len, h.input_eq hs]
    · next hne =>
      rw [if_neg hne] at hnext
      have hlt := Nat.lt_of_le_of_ne hi hne
      have hcls : u.decCls u.dec.i = cls (byteOf (s.bytes .decIn n) u.dec.i) :=
        congrArg cls (h.byteAt_decIn hs (by rwa [← h.len]))
      refine h.validate hnext (u.dec.validates_scanned _) hg0 ?_
      rw [hcls]
      exact verdict_scanned h.verdict hst hg0 hlen (by rwa [← hlen]) (hscan.pad_lt_two hlt)
  | repack =>
    obtain ⟨⟨-, -, -, herr, -⟩, -⟩ := h.inv.of_repack hst
    simp only [hst] at hnext ⊢
    split
    · next hend =>
      rw [if_pos hend] at hnext
      exact h.setDec hnext rfl rfl rfl (verdict_finished h.verdict hst hend herr)
    · next hne => exact h.repack hs hst (Nat.lt_of_le_of_ne hg hne)

/-- Every entry that the next step uses exists: a character, or a group and its bytes of an accepted string. -/
theorem Decoding.decHeld (h : Decoding s n u) (hs : DecodeReady s n) : u.DecHeld := by
  refine ⟨fun hst hi => ?_, fun hst hg => ?_⟩
  · obtain ⟨⟨-, hmul, -⟩, -⟩ := h.inv.of_scan hst
    rw [h.len] at hmul hi
    exact (h.kept.holds _ _).trans (hs.input hmul _ hi)
  · obtain ⟨⟨-, hmul, -⟩, -⟩ := h.inv.of_repack hst
    have hin (k : Nat) (hk : k < n) : u.holds .decIn k = true :=
      (h.kept.holds _ _).trans (hs.input (h.len ▸ hmul) k hk)
    have hout := hs.output _ (h.verdict.of_repack hst)
    have hlen := congrArg List.length h.output
    rw [← h.decGroupBytes_append hs hg, written_of_lt hg] at hlen
    simp only [List.length_append, State.length_bytes] at hlen
    refine ⟨?_, fun j hj => (h.kept.holds _ _).trans (hout _ (by omega))⟩
    rw [State.decNG, h.len] at hg
    simp [State.holdsGroup, hin (4 * u.dec.g) (by omega), hin (4 * u.dec.g + 1) (by omega),
      hin (4 * u.dec.g + 2) (by omega), hin (4 * u.dec.g + 3) (by omega)]

theorem Decoding.decStep_eq (h : Decoding s n u) (hs : DecodeReady s n) (hb : decBusy u = true) :
    decStep u = .next u.decNext ∧ Decoding s n u.decNext ∧ u.decNext.decStepsLeft < u.decStepsLeft := by
  have hsupp : u.unsupported .dec = false :=
    (State.unsupported_congr h.kept.bufMap (by simp only [otherUnit, busy, encBusy, h.enc])).trans hs.supported
  exact ⟨(decStep_eq_next h.inv hb).2 ⟨hsupp, h.decHeld hs, rfl⟩, h.decNext hs hb, decStepsLeft_decNext_lt h.inv hb⟩

/-- At rest the operation is done. -/
theorem Decoding.st_of_rest (h : Decoding s n u) (hb : decBusy u = false) : u.dec.st = .done :=
  dec_st_eq_done (fun hidle => by simpa only [Verdict, hidle] using h.verdict) hb

/-- At rest with a result: the bytes of `dec` of the input, and nothing else is written. -/
theorem Decoding.result_of_ok (h : Decoding s n u) (hb : decBusy u = false) {out : List Byte}
    (hout : dec (s.bytes .decIn n) = .ok out) :
    u.dec.err = none ∧ u.dec.outLen = out.length ∧ u.bytes .decOut out.length = out ∧
      BytesKept s u (entries s .decOut 0 out.length) := by
  have hst := h.st_of_rest hb
  cases herr : u.dec.err with
  | some k =>
    have hv := (h.verdict.of_error hst herr).1
    rw [hout] at hv
    cases hv
  | none =>
    obtain ⟨hv, hg⟩ := h.verdict.of_result hst herr
    obtain rfl : repackAll (s.bytes .decIn n) = out := by
      rw [hout] at hv
      injection hv with hv
      exact hv.symm
    have hbytes := h.output
    rw [repackAll_of_short (by rw [List.length_drop, State.length_bytes, hg, h.len]; omega), List.append_nil] at hbytes
    have hlen : (repackAll (s.bytes .decIn n)).length = u.dec.written := by rw [← hbytes, State.length_bytes]
    have hres : u.dec.outLen = decResultLen u.dec.len u.dec.pad.val := by
      obtain ⟨-, -, -, hm⟩ := h.inv
      simpa only [hst, herr] using hm
    rw [hlen]
    exact ⟨rfl, hres.trans (DecRegs.written_of_eq hg).symm, hbytes, h.kept.bytes⟩

/-- At rest with an error: its code, no result, and nothing is written (R196, R197). -/
theorem Decoding.result_of_error (h : Decoding s n u) (hb : decBusy u = false) {k : ErrKind}
    (hk : dec (s.bytes .decIn n) = .error k) :
    u.dec.err = some k ∧ u.dec.outLen = 0 ∧ u.decOut = s.decOut ∧ u.sysMem = s.sysMem ∧ BytesKept s u nothing := by
  have hst := h.st_of_rest hb
  cases herr : u.dec.err with
  | none =>
    have hv := (h.verdict.of_result hst herr).1
    rw [hk] at hv
    cases hv
  | some k' =>
    obtain ⟨hv, hg⟩ := h.verdict.of_error hst herr
    obtain rfl : k' = k := by
      rw [hk] at hv
      injection hv with hv
      exact hv.symm
    have hres : u.dec.outLen = 0 := by
      obtain ⟨-, -, -, hm⟩ := h.inv
      simpa only [hst, herr] using hm
    obtain ⟨hdecOut, hsys⟩ := h.untouched hg
    refine ⟨rfl, hres, hdecOut, hsys, (h.kept.mono fun sp j hj => ?_).bytes⟩
    rw [DecRegs.written_of_g_eq_zero hg] at hj
    obtain ⟨i, -, hi, -⟩ := hj
    exact absurd hi (Nat.not_lt_zero i)

end

/-- `DECODE` of a unit that is ready completes (R106). -/
theorem exists_execDecodeOp {s : State} {n : Nat} (hs : DecodeReady s n) :
    ∃ t, execDecodeOp n s = .next t ∧ Decoding s n t ∧ decBusy t = false := by
  obtain ⟨t, hrun, ht⟩ := decRun_comesToRest (P := Decoding s n) (fun u hu hb => hu.decStep_eq hs hb) (decoding_started hs)
    (decStepsLeft_le_budget _)
  exact ⟨t, andThen_eq_next.2 ⟨_, execDecStart_of_accepted hs.rest hs.supported hs.inBound, hrun⟩, ht⟩

/-- Settles O35: START begins a `Decoding`, every step keeps it, and at rest it is the result or the error. -/
theorem decodeComputesDec : Obligations.DecodeComputesDec := by
  unfold Obligations.DecodeComputesDec
  intro s len hb hu hlen hin hout
  obtain ⟨t, hexec, ht, hrest⟩ := exists_execDecodeOp ⟨hb, hu, hlen, hin, hout⟩
  exact ⟨t, (exec_decodeOp len s).trans hexec, ht.enc, ht.st_of_rest hrest, ht.len, ht.kept.model,
    fun out => ht.result_of_ok hrest, fun k => ht.result_of_error hrest⟩

end Sys2Proof.Machine
end

section
/-! PROOFS. The step machine computes the functions (O37; 40_commands.md R110): with no input to come and the other unit at rest
the machine's own steps are those of the whole operation. And a whole operation asked of a busy unit finishes the running one
(O36; log 10). -/

namespace Sys2Proof.Machine

/-! ## Runs of the core -/

/-- With no input to come and the decoder at rest a run of the encoder is one of the core (R110, log 6). -/
theorem exists_run_of_encRun {s t : State} {k : Nat} (hinv : EncInv s) (hno : s.agenda = []) (hd : decBusy s = false)
    (h : encRun k s = .next t) : ∃ j, Host.Core.run Sys2Proof.core j s = .next t := by
  induction k generalizing s with
  | zero => exact ⟨0, h⟩
  | succ k ih =>
    cases hb : encBusy s with
    | false =>
      rw [encRun_of_rest hb] at h
      exact ⟨0, h⟩
    | true =>
      rw [encRun_succ_of_busy hb, andThen_eq_next] at h
      obtain ⟨u, hu, h⟩ := h
      have hrun := encBusy_iff.1 hb
      have hstep := step_of_fetch_encEdge ((fetch_of_no_agenda hno).trans (freeRun_of_enc hb hd)) hrun
      obtain ⟨-, -, rfl⟩ := (encStep_eq_next hrun (hinv.of_run hrun).1).1 hu
      obtain ⟨j, hj⟩ := ih (hinv.encNext hrun) (by simpa using hno) (by simpa [decBusy] using hd) h
      exact ⟨j + 1, (run_succ_of_step (hstep.trans hu) j).trans hj⟩

/-- With no input to come and the encoder at rest a run of the decoder is one of the core (R110, log 6). -/
theorem exists_run_of_decRun {s t : State} {k : Nat} (hinv : DecInv s) (hno : s.agenda = []) (he : encBusy s = false)
    (h : decRun k s = .next t) : ∃ j, Host.Core.run Sys2Proof.core j s = .next t := by
  induction k generalizing s with
  | zero => exact ⟨0, h⟩
  | succ k ih =>
    cases hb : decBusy s with
    | false =>
      rw [decRun_of_rest hb] at h
      exact ⟨0, h⟩
    | true =>
      rw [decRun_succ_of_busy hb, andThen_eq_next] at h
      obtain ⟨u, hu, h⟩ := h
      have hstep := step_of_fetch_decEdge ((fetch_of_no_agenda hno).trans (freeRun_of_not_enc he))
      obtain ⟨hsupp, -, rfl⟩ := (decStep_eq_next hinv hb).1 hu
      have hov := (State.unsupported_dec_eq_false.1 hsupp).1
      obtain ⟨j, hj⟩ := ih (hinv.decNext hov) (by simpa using hno) (by simpa [encBusy] using he) h
      exact ⟨j + 1, (run_succ_of_step (hstep.trans hu) j).trans hj⟩

/-- Settles O37: the machine's steps after START are those of `ENCODE` and `DECODE`, whose results O34 and O35 give. -/
theorem stepMachineComputesTheFunctions : Obligations.StepMachineComputesTheFunctions := by
  unfold Obligations.StepMachineComputesTheFunctions
  refine fun s n hno he hd => ⟨fun hu hlen hin hout => ?_, fun hu hlen hin hout => ?_⟩
  · obtain ⟨t, hexec, ht, hrest⟩ := exists_execEncodeOp ⟨he, hu, hlen, hin, hout⟩
    obtain ⟨henc, hresult⟩ := ht.result_of_rest hrest
    obtain ⟨j, hj⟩ := exists_run_of_encRun (s := s.setEnc (EncRegs.started n)) ⟨hlen, Nat.zero_le _, rfl⟩ hno hd
      (encRun_of_execEncodeOp he hexec)
    exact ⟨_, t, j, (exec_encStart n s).trans (execEncStart_of_accepted he hu hlen), hj,
      encDone_iff.2 (ht.st_of_rest hrest), hresult, by rw [henc]; rfl⟩
  · obtain ⟨t, hexec, ht, hrest⟩ := exists_execDecodeOp ⟨hd, hu, hlen, hin, hout⟩
    obtain ⟨hinv, hrun⟩ := decRun_of_execDecodeOp hd hexec
    obtain ⟨j, hj⟩ := exists_run_of_decRun hinv hno he hrun
    refine ⟨_, t, j, (exec_decStart n s).trans (execDecStart_of_accepted hd hu hlen), hj,
      decDone_iff.2 (ht.st_of_rest hrest), fun out hok => ?_, fun e herr => ?_⟩
    · obtain ⟨hnone, hres, hbytes, -⟩ := ht.result_of_ok hrest hok
      exact ⟨hnone, hres, hbytes⟩
    · obtain ⟨hcode, hres, hdecOut, hsys, -⟩ := ht.result_of_error hrest herr
      exact ⟨hcode, hres, hdecOut, hsys⟩

/-! ## A whole operation asked of a busy unit -/

/-- The running encode of `s` goes on: the invariant, the entries in use and the length stay, the decoder is not touched. -/
structure EncGoesOn (s u : State) : Prop where
  inv : Inv u
  provided : Provided u
  started : u.enc.st ≠ .idle
  len : u.enc.len = s.enc.len
  dec : u.dec = s.dec

theorem EncGoesOn.encStep_eq {s u : State} (h : EncGoesOn s u) (hb : encBusy u = true) :
    encStep u = .next u.encNext ∧ EncGoesOn s u.encNext ∧ u.encNext.encStepsLeft < u.encStepsLeft := by
  have hrun := encBusy_iff.1 hb
  have hheld := h.provided.encHeld hb
  have ⟨_, henc, _, hplaced⟩ := h.inv
  have ho := (henc.of_run hrun).1
  refine ⟨(encStep_eq_next hrun ho).2 ⟨hplaced .enc hb, hheld, rfl⟩, ?_, encStepsLeft_encNext_lt hrun ho⟩
  exact ⟨h.inv.encNext hrun hheld, h.provided.of_busy (by simp) (busy_of_busy_encNext hb) (by simp) (by simp),
    State.encNext_st_ne_idle hrun ho, by simp [h.len], by simp [h.dec]⟩

theorem exists_execEncodeOp_of_busy {s : State} (n : Nat) (hinv : Inv s) (hprov : Provided s) (hb : encBusy s = true) :
    ∃ t, execEncodeOp n s = .next t ∧
      t.enc = { st := .done, len := s.enc.len, o := s.encM, outLen := s.encM } ∧ t.dec = s.dec := by
  have hrun := encBusy_iff.1 hb
  have hs : EncGoesOn s s := ⟨hinv, hprov, by simp [hrun], rfl, rfl⟩
  obtain ⟨t, ht, hgoes, hrest⟩ := encRun_comesToRest (fun u hu hbu => EncGoesOn.encStep_eq hu hbu) hs
    (k := encBudget s) (encStepsLeft_of_run hrun).le
  have ⟨_, henc, _, _⟩ := hgoes.inv
  refine ⟨t, andThen_eq_next.2 ⟨s, execEncStart_eq_next.2 (.inl ⟨hb, rfl⟩), ht⟩, ?_, hgoes.dec⟩
  rw [henc.enc_of_done (enc_st_eq_done hgoes.started hrest), State.encM, hgoes.len]
  rfl

/-- The running decode of `s` goes on: the invariant, the entries in use and the length stay, the encoder is not touched. -/
structure DecGoesOn (s u : State) : Prop where
  inv : Inv u
  provided : Provided u
  started : u.dec.st ≠ .idle
  len : u.dec.len = s.dec.len
  enc : u.enc = s.enc

/-- A step of a busy decoder does not make it idle. -/
theorem State.decNext_st_ne_idle {s : State} (hb : decBusy s = true) : s.decNext.dec.st ≠ .idle := by
  unfold State.decNext
  cases hst : s.dec.st with
  | idle => simp [decBusy, hst] at hb
  | done => simp [decBusy, hst] at hb
  | check =>
    simp only [State.setDec_dec, DecRegs.checked]
    split
    · simp
    · split <;> simp [DecRegs.raised]
  | scan =>
    dsimp only
    split
    · simp only [State.setDec_dec, DecRegs.judged]
      split <;> simp [DecRegs.raised]
    · cases s.decCls s.dec.i with
      | val v =>
        simp only [State.setDec_dec, DecRegs.scanned]
        split <;> simp [DecRegs.raised, hst]
      | pad =>
        simp only [State.setDec_dec, DecRegs.scanned]
        split <;> simp [DecRegs.raised, hst]
      | inv => simp [DecRegs.scanned, DecRegs.raised]
  | repack =>
    dsimp only
    split
    · simp [DecRegs.finished]
    · simp [hst]

theorem DecGoesOn.decStep_eq {s u : State} (h : DecGoesOn s u) (hb : decBusy u = true) :
    decStep u = .next u.decNext ∧ DecGoesOn s u.decNext ∧ u.decNext.decStepsLeft < u.decStepsLeft := by
  have ⟨_, _, hdec, hplaced⟩ := h.inv
  have hheld := h.provided.decHeld hdec hb
  refine ⟨(decStep_eq_next hdec hb).2 ⟨hplaced .dec hb, hheld, rfl⟩, ?_, decStepsLeft_decNext_lt hdec hb⟩
  exact ⟨h.inv.decNext hb hheld, h.provided.of_busy (by simp) (busy_of_busy_decNext hb) (by simp) (by simp),
    State.decNext_st_ne_idle hb, by simp [h.len], by simp [h.enc]⟩

theorem exists_execDecodeOp_of_busy {s : State} (n : Nat) (hinv : Inv s) (hprov : Provided s) (hb : decBusy s = true) :
    ∃ t, execDecodeOp n s = .next t ∧ t.dec.st = .done ∧ t.dec.len = s.dec.len ∧ t.enc = s.enc := by
  have hs : DecGoesOn s s := ⟨hinv, hprov, fun hidle => by simp [decBusy, hidle] at hb, rfl, rfl⟩
  obtain ⟨t, ht, hgoes, hrest⟩ := decRun_comesToRest (fun u hu hbu => DecGoesOn.decStep_eq hu hbu) hs
    (decStepsLeft_le_budget s)
  exact ⟨t, andThen_eq_next.2 ⟨s, execDecStart_eq_next.2 (.inl ⟨hb, rfl⟩), ht⟩,
    dec_st_eq_done hgoes.started hrest, hgoes.len, hgoes.enc⟩

/-- Settles O36: START is ignored, and the run from the same state comes to rest. -/
theorem wholeOperationWhileBusyFinishesTheRunningOne : Obligations.WholeOperationWhileBusyFinishesTheRunningOne := by
  unfold Obligations.WholeOperationWhileBusyFinishesTheRunningOne
  refine fun s n hinv hprov => ⟨fun hb => ?_, fun hb => ?_⟩
  · obtain ⟨t, ht, hrest⟩ := exists_execEncodeOp_of_busy n hinv hprov hb
    exact ⟨t, (exec_encodeOp n s).trans ht, hrest⟩
  · obtain ⟨t, ht, hrest⟩ := exists_execDecodeOp_of_busy n hinv hprov hb
    exact ⟨t, (exec_decodeOp n s).trans ht, hrest⟩

/-! ## Concrete runs -/

/-- O37 says something of `ENC.START 3` on `Man`: the machine comes to done with `TWFu` in `ENC.OUT`. -/
theorem encodeFresh_runs_to_twfu : ∃ (t u : State) (k : Nat), exec (.encStart 3) encodeFresh = .next t ∧
    Host.Core.run Sys2Proof.core k t = .next u ∧ done .enc u = true ∧ u.bytes .encOut 4 = Tests.twfu := by
  obtain ⟨t, u, k, hstart, hrun, hdone, hbytes, -⟩ :=
    (stepMachineComputesTheFunctions encodeFresh 3 rfl rfl rfl).1 rfl rfl (by decide) (by decide)
  exact ⟨t, u, k, hstart, hrun, hdone, hbytes.trans rfl⟩

/-- A decoder at rest after reset with `TQ==` in `DEC.IN`. -/
def decodeFresh : State := Tests.decAt DecRegs.reset Tests.tq

/-- O37 says something of `DEC.START 4` on `TQ==`: the machine comes to done with `M` in `DEC.OUT`. -/
theorem decodeFresh_runs_to_m : ∃ (t u : State) (k : Nat), exec (.decStart 4) decodeFresh = .next t ∧
    Host.Core.run Sys2Proof.core k t = .next u ∧ done .dec u = true ∧ u.dec.err = none ∧ u.bytes .decOut 1 = [0x4D] := by
  have hdec : dec (decodeFresh.bytes .decIn 4) = .ok [0x4D] := rfl
  obtain ⟨t, u, k, hstart, hrun, hdone, hok, -⟩ :=
    (stepMachineComputesTheFunctions decodeFresh 4 rfl rfl rfl).2 rfl rfl (fun _ => by decide) (fun _ _ _ _ => rfl)
  obtain ⟨herr, -, hbytes⟩ := hok _ hdec
  exact ⟨t, u, k, hstart, hrun, hdone, herr, hbytes⟩

/-- O36 says something of a state in which both units run: `ENCODE 0` ends the running encode. -/
theorem bothRun_encodeOp_finishes : ∃ t, exec (.encodeOp 0) Tests.bothRun = .next t ∧ t.enc.st = .done ∧
    t.dec = Tests.bothRun.dec := by
  obtain ⟨hinv, hprov, hb, -, -⟩ := Tests.witness_BothBusy
  obtain ⟨t, ht, henc, hdec⟩ := (wholeOperationWhileBusyFinishesTheRunningOne _ 0 hinv hprov).1 hb
  exact ⟨t, ht, by rw [henc], hdec⟩

end Sys2Proof.Machine
end

section
/-! PROOFS. What a step of the machine is made of (log 5, log 10): an accepted START, a micro-operation of a busy unit,
`RESET`, the host's write of one `IN` entry, or a change of the model's own fields. What each of these keeps, every step keeps. -/

namespace Sys2Proof.Machine

/-! ## Moves -/

/-- One change of those that a step of the machine is made of; a whole operation makes many (R104, R106). -/
inductive Move : State → State → Prop
  /-- The model's own fields change, and nothing that the spec names (log 3, log 5, log 9, log 15). -/
  | bookkeeping (s : State) (agenda : List Input) (hostData : Nat) (lutData : Byte) (fresh : Nat) :
      Move s { s with agenda := agenda, hostData := hostData, lutData := lutData, fresh := fresh }
  /-- An accepted `ENC.START` (R101). -/
  | encStart {s : State} {n : Nat} (hb : encBusy s = false) (hu : s.unsupported .enc = false)
      (hlen : Config.lenInBound s.lenW .enc n = true) : Move s (s.setEnc (EncRegs.started n))
  /-- An accepted `DEC.START` (R102). -/
  | decStart {s : State} {n : Nat} (hb : decBusy s = false) (hu : s.unsupported .dec = false)
      (hlen : Config.lenInBound s.lenW .dec n = true) : Move s (s.setDec (DecRegs.started n))
  /-- A micro-operation of the running encoder (R84). -/
  | encStep {s t : State} (hb : encBusy s = true) (h : encStep s = .next t) : Move s t
  /-- A micro-operation of the busy decoder (R85). -/
  | decStep {s t : State} (hb : decBusy s = true) (h : decStep s = .next t) : Move s t
  /-- `RESET` (R220). -/
  | reset (s : State) : Move s (resetState s)
  /-- The host's write of an `IN` entry (R100). -/
  | writeIn {s t : State} {u : UnitId} {k : Nat} {v : Byte} (h : hostWriteIn u k v s = .next t) : Move s t

/-- If the outcome is a next state, moves lead there from `s`. -/
def MovesTo (s : State) (o : Out) : Prop := ∀ t, o = .next t → Relation.ReflTransGen Move s t

theorem movesTo_next {s t : State} (h : Relation.ReflTransGen Move s t) : MovesTo s (.next t) := by
  rintro _ ⟨⟩
  exact h

theorem movesTo_fault (s : State) (f : Fault) : MovesTo s (.fault f) := fun _ h => by cases h

theorem movesTo_refused (s : State) (r : Refusal) : MovesTo s (.refused r) := fun _ h => by cases h

theorem movesTo_self (s : State) : MovesTo s (.next s) := movesTo_next .refl

theorem movesTo_of_move {s t : State} (h : Move s t) : MovesTo s (.next t) := movesTo_next (.single h)

theorem movesTo_andThen {s : State} {o : Out} {f : State → Out} (ho : MovesTo s o) (hf : ∀ t, MovesTo t (f t)) :
    MovesTo s (andThen o f) := by
  intro t ht
  obtain ⟨u, hu, ht⟩ := andThen_eq_next.1 ht
  exact (ho u hu).trans (hf u t ht)

theorem MovesTo.of_moves {s u : State} {o : Out} (h : MovesTo u o) (hsu : Relation.ReflTransGen Move s u) : MovesTo s o :=
  fun t ht => hsu.trans (h t ht)

/-! ## The units -/

theorem movesTo_execEncStart (len : Nat) (s : State) : MovesTo s (execEncStart len s) := by
  intro t ht
  rcases execEncStart_eq_next.1 ht with ⟨-, rfl⟩ | ⟨hb, hu, hlen, rfl⟩
  · exact .refl
  · exact .single (.encStart hb hu hlen)

theorem movesTo_execDecStart (len : Nat) (s : State) : MovesTo s (execDecStart len s) := by
  intro t ht
  rcases execDecStart_eq_next.1 ht with ⟨-, rfl⟩ | ⟨hb, hu, hlen, rfl⟩
  · exact .refl
  · exact .single (.decStart hb hu hlen)

theorem movesTo_encRun (k : Nat) (s : State) : MovesTo s (encRun k s) := by
  induction k generalizing s with
  | zero => exact movesTo_self s
  | succ k ih =>
    cases hb : encBusy s with
    | false =>
      rw [encRun_of_rest hb]
      exact movesTo_self s
    | true =>
      rw [encRun_succ_of_busy hb]
      exact movesTo_andThen (fun _ hu => .single (.encStep hb hu)) ih

theorem movesTo_decRun (k : Nat) (s : State) : MovesTo s (decRun k s) := by
  induction k generalizing s with
  | zero => exact movesTo_self s
  | succ k ih =>
    cases hb : decBusy s with
    | false =>
      rw [decRun_of_rest hb]
      exact movesTo_self s
    | true =>
      rw [decRun_succ_of_busy hb]
      exact movesTo_andThen (fun _ hu => .single (.decStep hb hu)) ih

theorem movesTo_execEncodeOp (len : Nat) (s : State) : MovesTo s (execEncodeOp len s) :=
  movesTo_andThen (movesTo_execEncStart len s) fun _ => movesTo_encRun _ _

theorem movesTo_execDecodeOp (len : Nat) (s : State) : MovesTo s (execDecodeOp len s) :=
  movesTo_andThen (movesTo_execDecStart len s) fun _ => movesTo_decRun _ _

/-! ## The host's accesses -/

theorem movesTo_answerLut (e : Byte) (s : State) : MovesTo s (answerLut e s) :=
  movesTo_of_move (.bookkeeping s s.agenda s.hostData e s.fresh)

theorem movesTo_hostReadReg (u : UnitId) (reg : Fin 4) (s : State) : MovesTo s (hostReadReg u reg s) :=
  movesTo_of_move (.bookkeeping s s.agenda (readRegister u reg s) s.lutData s.fresh)

/-- A read of an output entry answers its byte, or a free value that it draws (R61, R229). -/
theorem movesTo_hostReadOut (u : UnitId) (k : Nat) (s : State) : MovesTo s (hostReadOut u k s) := by
  intro t ht
  unfold hostReadOut at ht
  split at ht
  · obtain ⟨-, ht⟩ := memRead_eq_next.1 ht
    exact movesTo_of_move (.bookkeeping s s.agenda (s.byteAt (outSpace u) k).toNat s.lutData s.fresh) t ht
  · exact movesTo_of_move (.bookkeeping s s.agenda (Config.earlyByte s.fresh).toNat s.lutData (s.fresh + 1)) t ht

theorem movesTo_hostBusRead (a : Nat) (s : State) : MovesTo s (hostBusRead a s) := by
  unfold hostBusRead
  split
  · exact movesTo_hostReadReg _ _ s
  · exact movesTo_hostReadOut .enc _ s
  · exact movesTo_hostReadOut .dec _ s
  · split
    · exact movesTo_hostReadOut .enc _ s
    · exact movesTo_hostReadOut .dec _ s
  · exact movesTo_refused s _

theorem movesTo_hostWriteIn (u : UnitId) (k : Nat) (v : Byte) (s : State) : MovesTo s (hostWriteIn u k v s) :=
  fun _ ht => .single (.writeIn ht)

theorem movesTo_hostBusWriteIn (u : UnitId) (k a w : Nat) (s : State) : MovesTo s (hostBusWriteIn u k a w s) := by
  unfold hostBusWriteIn
  split
  · exact movesTo_hostWriteIn u k _ s
  · exact movesTo_refused s _

/-- A word that stands for no operation changes nothing (R28). -/
theorem movesTo_rejected (e : Reject) (s : State) : MovesTo s (rejected e s) := by
  cases e with
  | startBitZero => exact movesTo_self s
  | rstLow => exact movesTo_self s
  | commandTooWide => exact movesTo_refused s _
  | noSuchPattern => exact movesTo_fault s _

/-! ## What is fetched -/

/-- What the machine's step makes of what is fetched is reached from `s` by moves. -/
def Fetched.MovesFrom (x : Fetched) (s : State) : Prop := ∀ s₀, fetch s₀ = x → MovesTo s (step s₀)

theorem Fetched.movesFrom_other {s : State} {o : Out} (ho : MovesTo s o) : (Fetched.other o).MovesFrom s := by
  intro s₀ hf
  rwa [step_of_fetch_other hf]

theorem Fetched.movesFrom_word {p : PortWord} {s : State} (hi : ∀ i, decode s.lenW p = .ok i → MovesTo s (exec i s)) :
    (Fetched.word p s).MovesFrom s := by
  intro s₀ hf
  cases hd : decode s.lenW p with
  | ok i =>
    rw [step_of_fetch_word hf hd]
    exact hi i hd
  | error e =>
    rw [step_of_fetch_rejected hf hd]
    exact movesTo_rejected e s

/-- A CMD word stands for an operation with its operand, or for none (R28, R71). -/
theorem Fetched.movesFrom_command {p : PortWord} {s : State} {w : Nat} {f : Nat → Instr}
    (hp : decode s.lenW p = (commandLen s.lenW w).map f) (hf : ∀ len, MovesTo s (exec (f len) s)) :
    (Fetched.word p s).MovesFrom s := by
  refine movesFrom_word fun i hi => ?_
  rw [hp] at hi
  cases hlen : commandLen s.lenW w with
  | ok len =>
    rw [hlen] at hi
    cases hi
    exact hf len
  | error e =>
    rw [hlen] at hi
    cases hi

theorem Fetched.movesFrom_writeRegister (u : UnitId) (reg : Fin 4) (w : Nat) (s : State) :
    (writeRegister u reg w s).MovesFrom s := by
  unfold writeRegister
  split
  · cases u with
    | enc => exact movesFrom_command (f := .encStart) rfl fun len => movesTo_execEncStart len s
    | dec => exact movesFrom_command (f := .decStart) rfl fun len => movesTo_execDecStart len s
  · exact movesFrom_other (movesTo_self s)

theorem Fetched.movesFrom_busWritten (a w : Nat) (s : State) : (busWritten a w s).MovesFrom s := by
  unfold busWritten
  split
  · exact movesFrom_writeRegister _ _ w s
  · exact movesFrom_other (movesTo_hostBusWriteIn _ _ a w s)
  · exact movesFrom_other (movesTo_hostBusWriteIn _ _ a w s)
  · exact movesFrom_other (movesTo_hostBusWriteIn _ _ a w s)
  · exact movesFrom_other (movesTo_refused s _)

theorem Fetched.movesFrom_rst (s : State) : (Fetched.word (.rst 1) s).MovesFrom s := by
  refine movesFrom_word fun i hi => ?_
  obtain rfl : .reset = i := by injection hi
  exact movesTo_of_move (.reset s)

/-- At a clock edge a busy unit takes its step, and one at rest none (R83, R206). -/
theorem Fetched.movesFrom_unitEdge (u : UnitId) (s : State) : (unitEdge u s).MovesFrom s := by
  cases hb : busy u s with
  | false =>
    rw [unitEdge_of_no_word (unitWord_of_rest hb)]
    exact movesFrom_other (movesTo_self s)
  | true =>
    intro s₀ hf t ht
    cases u with
    | enc => exact .single (.encStep hb ((step_of_fetch_encEdge hf (encBusy_iff.1 hb)).symm.trans ht))
    | dec => exact .single (.decStep hb ((step_of_fetch_decEdge hf).symm.trans ht))

theorem Fetched.movesFrom_present (inp : Input) (s : State) : (present inp s).MovesFrom s := by
  cases inp with
  | clk u => exact movesFrom_unitEdge u s
  | rst => exact movesFrom_rst s
  | writeReg u reg w rst =>
    cases rst with
    | true => exact movesFrom_rst s
    | false => exact movesFrom_writeRegister u reg w s
  | call u w =>
    cases u with
    | enc => exact movesFrom_command (f := .encodeOp) rfl fun len => movesTo_execEncodeOp len s
    | dec => exact movesFrom_command (f := .decodeOp) rfl fun len => movesTo_execDecodeOp len s
  | encIndex k =>
    obtain ⟨i, hrow, -, hexec⟩ := exists_encLutRow k
    refine movesFrom_word fun j hj => ?_
    obtain rfl : i = j := by injection (decode_encIndex_of_row hrow).symm.trans hj
    rw [hexec]
    exact movesTo_answerLut _ s
  | decIndex c =>
    obtain ⟨i, hrow, -, hexec⟩ := exists_decLutRow c
    refine movesFrom_word fun j hj => ?_
    obtain rfl : i = j := by injection (decode_decIndex_of_row hrow).symm.trans hj
    rw [hexec]
    exact movesTo_answerLut _ s
  | writeIn u k v => exact movesFrom_other (movesTo_hostWriteIn u k v s)
  | readReg u reg => exact movesFrom_other (movesTo_hostReadReg u reg s)
  | readOut u k => exact movesFrom_other (movesTo_hostReadOut u k s)
  | busRead a => exact movesFrom_other (movesTo_hostBusRead a s)
  | busWrite a w => exact movesFrom_busWritten a w s

theorem Fetched.movesFrom_freeRun (s : State) : (freeRun s).MovesFrom s := by
  have hdraw : Move s s.draw := .bookkeeping s s.agenda s.hostData s.lutData (s.fresh + 1)
  unfold freeRun
  split
  · split
    · exact fun s₀ hf => (movesFrom_unitEdge _ s.draw s₀ hf).of_moves (.single hdraw)
    · exact movesFrom_unitEdge .enc s
  · exact movesFrom_unitEdge .dec s

/-- A step of the machine is made of moves, whatever input it takes. -/
theorem movesTo_step (s : State) : MovesTo s (step s) := by
  cases hs : s.agenda with
  | nil => exact Fetched.movesFrom_freeRun s s (fetch_of_no_agenda hs)
  | cons inp rest =>
    have htake : Move s { s with agenda := rest } := .bookkeeping s rest s.hostData s.lutData s.fresh
    exact (Fetched.movesFrom_present inp _ s (fetch_of_agenda hs)).of_moves (.single htake)

/-- What every move keeps, every step keeps. -/
theorem step_induction {P : State → Prop} (hmove : ∀ {s t}, P s → Move s t → P t) {s t : State} (hs : P s)
    (h : step s = .next t) : P t := by
  have hmoves := movesTo_step s t h
  clear h
  induction hmoves with
  | refl => exact hs
  | tail _ hlast ih => exact hmove ih hlast

end Sys2Proof.Machine
end

section
/-! PROOFS. Every step keeps the invariant, whatever input it takes (O55; 41_encoder.md R130, 42_decoder_validation.md R150,
43_decoder_repack.md R178). -/

namespace Sys2Proof.Machine

/-! ## START -/

/-- An accepted START of the encoder makes no placement unsupported that was not (R231). -/
theorem PlacementSupported.encStarted {s : State} {n : Nat} (h : PlacementSupported s) (hu : s.unsupported .enc = false) :
    PlacementSupported (s.setEnc (EncRegs.started n)) := by
  obtain ⟨hov, hunits⟩ := State.unsupported_enc_eq_false.1 hu
  intro u hb
  cases u with
  | enc => exact State.unsupported_enc_eq_false.2 ⟨hov, hunits⟩
  | dec =>
    obtain ⟨hown, -⟩ := State.unsupported_dec_eq_false.1 (h .dec hb)
    exact State.unsupported_dec_eq_false.2 ⟨hown, fun _ => hunits hb⟩

/-- An accepted START of the decoder makes no placement unsupported that was not (R231). -/
theorem PlacementSupported.decStarted {s : State} {n : Nat} (h : PlacementSupported s) (hu : s.unsupported .dec = false) :
    PlacementSupported (s.setDec (DecRegs.started n)) := by
  obtain ⟨hov, hunits⟩ := State.unsupported_dec_eq_false.1 hu
  intro u hb
  cases u with
  | enc =>
    obtain ⟨hown, -⟩ := State.unsupported_enc_eq_false.1 (h .enc hb)
    exact State.unsupported_enc_eq_false.2 ⟨hown, fun _ => hunits hb⟩
  | dec => exact State.unsupported_dec_eq_false.2 ⟨hov, hunits⟩

theorem Inv.encStarted {s : State} {n : Nat} (h : Inv s) (hu : s.unsupported .enc = false)
    (hlen : Config.lenInBound s.lenW .enc n = true) : Inv (s.setEnc (EncRegs.started n)) := by
  obtain ⟨hwf, -, hdec, hplaced⟩ := h
  exact ⟨hwf, encInv_started hlen, hdec, hplaced.encStarted hu⟩

theorem Inv.decStarted {s : State} {n : Nat} (h : Inv s) (hu : s.unsupported .dec = false)
    (hlen : Config.lenInBound s.lenW .dec n = true) : Inv (s.setDec (DecRegs.started n)) := by
  obtain ⟨hwf, henc, -, hplaced⟩ := h
  exact ⟨hwf, henc, decInv_started hlen, hplaced.decStarted hu⟩

/-! ## `RESET` -/

/-- The empty operation is within every bound (R7). -/
theorem lenInBound_zero (lenW : Option Nat) (u : UnitId) : Config.lenInBound lenW u 0 = true := by
  cases u with
  | enc => exact lenInBound_enc_iff.2 fun _ _ => Nat.zero_le _
  | dec => exact lenInBound_dec_iff.2 fun _ _ => Nat.zero_le _

/-- `RESET` establishes the units' parts of the invariant from any registers (R220). -/
theorem Inv.reset {s : State} (h : MemoriesWf s) : Inv (resetState s) := by
  obtain ⟨hei, -, hdi, -, hsys⟩ := h
  have hwf : MemoriesWf (resetState s) :=
    ⟨hei, Memory.wf_outAfterReset _ _, hdi, Memory.wf_outAfterReset _ _, wf_sysAfterReset _ hsys⟩
  have henc : EncInv (resetState s) := ⟨lenInBound_zero _ .enc, rfl⟩
  have hdec : DecInv (resetState s) := ⟨lenInBound_zero _ .dec, Nat.le_refl _, Nat.zero_le _, rfl⟩
  exact ⟨hwf, henc, hdec, fun u hb => by cases u <;> cases hb⟩

/-! ## The host's write -/

/-- An entry that touches no address of another buffer is one with no entry of it (R231). -/
theorem State.sameEntry_of_touches {s : State} {sp sp₂ : Space} {k : Nat} (hne : sp ≠ sp₂)
    (h : s.touches sp k sp₂ = false) (j : Nat) : s.sameEntry sp k sp₂ j = false := by
  refine Bool.eq_false_of_not_eq_true fun hsame => ?_
  unfold State.sameEntry at hsame
  unfold State.touches at h
  cases ha : s.addrOf sp k with
  | none => simp [ha, hne] at hsame
  | some a =>
    have hj : s.addrOf sp₂ j = some a := by simpa [ha, hne] using hsame
    simp [ha, State.placedIn_of_addrOf hj] at h

theorem eq_otherUnit_of_ne {u v : UnitId} (h : v ≠ u) : v = otherUnit u := by
  cases u <;> cases v <;> simp_all [otherUnit]

/-- The host writes no byte that a busy unit uses: neither of its input nor of its output (R228, R231). -/
theorem byteAt_of_hostWriteIn {s t : State} {u v : UnitId} {k : Nat} {x : Byte} (h : hostWriteIn u k x s = .next t)
    (hb : busy v s = true) (j : Nat) :
    t.byteAt (inSpace v) j = s.byteAt (inSpace v) j ∧ t.byteAt (outSpace v) j = s.byteAt (outSpace v) j := by
  obtain ⟨hrest, hin, hout, -, rfl⟩ := hostWriteIn_eq_next.1 h
  obtain rfl : v = otherUnit u := eq_otherUnit_of_ne fun heq => by simp [heq, hrest] at hb
  rw [hb, Bool.true_and] at hin hout
  have hne : inSpace u ≠ inSpace (otherUnit u) := by cases u <;> decide
  exact ⟨State.byteAt_setByte_of_ne s (State.sameEntry_of_touches hne hin j) x,
    State.byteAt_setByte_of_ne s (State.sameEntry_of_touches (outSpace_ne_inSpace _ _).symm hout j) x⟩

theorem Inv.hostWritten {s t : State} {u : UnitId} {k : Nat} {v : Byte} (h : Inv s) (hw : hostWriteIn u k v s = .next t) :
    Inv t := by
  obtain ⟨hwf, henc, hdec, hplaced⟩ := h
  have hcls : decBusy s = true → ∀ j, t.decCls j = s.decCls j := fun hb j =>
    congrArg cls (byteAt_of_hostWriteIn (v := .dec) hw hb j).1
  obtain ⟨-, -, -, hheld, rfl⟩ := hostWriteIn_eq_next.1 hw
  refine ⟨hwf.setByte hheld v, henc.congr (by simp) (by simp), hdec.congr (by simp) (by simp) hcls,
    hplaced.of_busy (by simp) fun x hb => ?_⟩
  cases x with
  | enc => simpa [busy, encBusy] using hb
  | dec => simpa [busy, decBusy] using hb

/-! ## Every move, every step -/

theorem Inv.move {s t : State} (h : Inv s) (hm : Move s t) : Inv t := by
  have ⟨hwf, henc, hdec, _⟩ := h
  cases hm with
  | bookkeeping => exact h
  | encStart hb hu hlen => exact h.encStarted hu hlen
  | decStart hb hu hlen => exact h.decStarted hu hlen
  | encStep hb hstep =>
    have hrun := encBusy_iff.1 hb
    obtain ⟨-, hheld, rfl⟩ := (encStep_eq_next hrun (henc.of_run hrun).1).1 hstep
    exact h.encNext hrun hheld
  | decStep hb hstep =>
    obtain ⟨-, hheld, rfl⟩ := (decStep_eq_next hdec hb).1 hstep
    exact h.decNext hb hheld
  | reset => exact .reset hwf
  | writeIn hw => exact h.hostWritten hw

/-- Settles O55: each of the moves that a step is made of keeps the invariant. -/
theorem everyStepKeepsTheInvariant : Obligations.EveryStepKeepsTheInvariant := by
  unfold Obligations.EveryStepKeepsTheInvariant
  exact fun _ _ h hstep => step_induction Inv.move h hstep

/-- O55 says something of a state in which both units run: the step it takes leads to the invariant again. -/
theorem bothRun_stepKeepsInv : ∃ t, step Tests.bothRun = .next t ∧ Inv t := by
  obtain ⟨-, t, ht⟩ := bothRun_safe
  exact ⟨t, ht, everyStepKeepsTheInvariant _ t Tests.witness_bothRun_inv ht⟩

end Sys2Proof.Machine
end

section
/-! PROOFS. Every step keeps the characters written so far (O57; 41_encoder.md R130): the encoder's own step adds the next
character of `enc` of its input, and nothing else writes a byte that the running encoder uses. -/

namespace Sys2Proof.Machine

/-- `EncOutCorrect` is about the encoder's registers and, while it runs, the bytes of its two buffers. -/
theorem EncOutCorrect.congr {s t : State} (h : EncOutCorrect s) (henc : t.enc = s.enc)
    (hbytes : encBusy s = true → ∀ k, t.byteAt .encIn k = s.byteAt .encIn k ∧ t.byteAt .encOut k = s.byteAt .encOut k) :
    EncOutCorrect t := by
  intro hrun k hk
  rw [henc] at hrun hk
  have hb := hbytes (encBusy_iff.2 hrun)
  have hin : t.bytes .encIn s.enc.len = s.bytes .encIn s.enc.len := State.bytes_eq_iff.2 fun j _ => (hb j).1
  rw [henc, hin, (hb k).2]
  exact h hrun k hk

/-- A unit that does not run has no characters to keep. -/
theorem EncOutCorrect.of_not_run {s : State} (h : s.enc.st ≠ .run) : EncOutCorrect s := fun hrun => absurd hrun h

/-- The writing step adds the next character (R131). -/
theorem EncOutCorrect.encNext {s : State} (h : EncOutCorrect s) (hrun : s.enc.st = .run) (ho : s.enc.o ≤ s.encM)
    (hov : s.overlap .encIn .encOut = false) : EncOutCorrect s.encNext := by
  rcases Nat.lt_or_eq_of_le ho with hlt | heq
  · have hin : s.encNext.bytes .encIn s.enc.len = s.bytes .encIn s.enc.len := State.bytes_eq_iff.2 fun j _ =>
      State.encNext_byteAt_of_overlap (by decide) ((s.overlap_comm .encOut .encIn).trans hov) j
    intro _ k hk
    rw [State.encNext_enc_of_lt hlt] at hk
    rw [State.encNext_enc_len, hin, State.encNext_byteAt_encOut hlt]
    split
    · next hlast => rw [hlast, State.encNextChar_eq_encChar hlt]
    · next hne => exact h hrun k (Nat.lt_of_le_of_ne (Nat.le_of_lt_succ hk) hne)
  · exact .of_not_run (by simp [State.encNext_enc_of_eq heq])

/-- The decoder's step is not seen in a buffer that does not overlap `DEC.OUT`. -/
theorem State.decNext_byteAt_of_overlap {s : State} {sp : Space} (hne : .decOut ≠ sp) (h : s.overlap .decOut sp = false)
    (k : Nat) : s.decNext.byteAt sp k = s.byteAt sp k :=
  (decNext_induction (P := fun t => t.overlap .decOut sp = false ∧ t.byteAt sp k = s.byteAt sp k) (by simp)
    (fun _ j v ht => ⟨(State.setByte_overlap ..).trans ht.1, (State.byteAt_setByte_of_overlap hne ht.1 j k v).trans ht.2⟩)
    ⟨h, rfl⟩).2

/-- While both units run their buffers share no address, so that the decoder writes no byte of the encoder's (R231). -/
theorem Inv.decNext_byteAt_enc {s : State} (h : Inv s) (he : encBusy s = true) (hd : decBusy s = true) (k : Nat) :
    s.decNext.byteAt .encIn k = s.byteAt .encIn k ∧ s.decNext.byteAt .encOut k = s.byteAt .encOut k := by
  obtain ⟨-, -, -, hplaced⟩ := h
  have hunits := (State.unsupported_enc_eq_false.1 (hplaced .enc he)).2 hd
  obtain ⟨hout, hin⟩ := State.overlap_of_unitsOverlap hunits .enc
  exact ⟨State.decNext_byteAt_of_overlap (by decide) hin k,
    State.decNext_byteAt_of_overlap (by decide) ((s.overlap_comm .decOut .encOut).trans hout) k⟩

theorem EncOutCorrect.move {s t : State} (h : EncOutCorrect s) (hinv : Inv s) (hm : Move s t) : EncOutCorrect t := by
  have ⟨_, henc, hdec, _⟩ := hinv
  cases hm with
  | bookkeeping => exact h.congr rfl fun _ _ => ⟨rfl, rfl⟩
  | encStart hb hu hlen => exact fun _ k hk => absurd hk (Nat.not_lt_zero k)
  | decStart hb hu hlen => exact h.congr rfl fun _ _ => ⟨State.setDec_byteAt .., State.setDec_byteAt ..⟩
  | encStep hb hstep =>
    have hrun := encBusy_iff.1 hb
    have ho := (henc.of_run hrun).1
    obtain ⟨hu, -, rfl⟩ := (encStep_eq_next hrun ho).1 hstep
    exact h.encNext hrun ho (State.unsupported_enc_eq_false.1 hu).1
  | decStep hb hstep =>
    obtain ⟨-, -, rfl⟩ := (decStep_eq_next hdec hb).1 hstep
    exact h.congr (by simp) fun he k => hinv.decNext_byteAt_enc he hb k
  | reset => exact .of_not_run (by simp [resetState, EncRegs.reset])
  | writeIn hw =>
    have hbytes := fun he k => byteAt_of_hostWriteIn (v := .enc) hw he k
    obtain ⟨-, -, -, -, rfl⟩ := hostWriteIn_eq_next.1 hw
    exact h.congr (by simp) hbytes

/-- Settles O57: each of the moves that a step is made of keeps the invariant and the characters written so far. -/
theorem encodedPrefixIsKept : Obligations.EncodedPrefixIsKept := by
  unfold Obligations.EncodedPrefixIsKept
  intro s t hinv h hstep
  have hboth : Inv t ∧ EncOutCorrect t := step_induction (P := fun u => Inv u ∧ EncOutCorrect u)
    (fun ⟨hu, hchars⟩ hm => ⟨hu.move hm, hchars.move hu hm⟩) ⟨hinv, h⟩ hstep
  exact hboth.2

/-- O57 says something of a state in which both units run, with a character written: the step it takes keeps it. -/
theorem bothRun_stepKeepsChars : ∃ t, step Tests.bothRun = .next t ∧ EncOutCorrect t := by
  obtain ⟨hinv, hcorrect, -⟩ := Tests.witness_EncodedPrefix
  obtain ⟨-, t, ht⟩ := bothRun_safe
  exact ⟨t, ht, encodedPrefixIsKept _ t hinv hcorrect ht⟩

end Sys2Proof.Machine
end

section
/-! PROOFS. The encoder's micro-operations one by one (O10 to O16; 41_encoder.md R122 to R128) and the output multiplexer that feeds
them (O17; R121, R129): before the end the selected one fetches its group, writes the next character and changes nothing else. -/

namespace Sys2Proof.Machine

/-! ## The writing step -/

/-- The effect common to R122 to R127: the next character at `ENC.o`, then `ENC.o + 1`, and nothing else (R131). -/
theorem State.encWritten_wrote (s : State) : EncWrote s s.encWritten s.encNextChar := by
  have hkept : Kept s s.encWritten (entries s .encOut s.enc.o 1) :=
    ((Kept.refl s _).setByte (fun _ _ hsame => entries_one.2 hsame) s.encNextChar).setEnc _
  exact ⟨by simp [State.encWritten], by simp [State.encWritten], by simp [State.encWritten], hkept.bytes, hkept.model⟩

/-- The group fetch reads the bytes that the group has (R53, R120). -/
theorem State.encGroupHeld_iff {s : State} (ho : s.enc.o < s.encM) :
    s.EncGroupHeld ↔ s.HoldsFrom .encIn s.encBase s.encRem := by
  obtain ⟨hlo, hhi⟩ := State.encRem_of_lt ho
  constructor
  · rintro ⟨h0, h1, h2⟩ j hj
    have hcases : j = 0 ∨ j = 1 ∨ j = 2 := by omega
    rcases hcases with rfl | rfl | rfl
    · exact h0
    · exact h1 (by omega)
    · exact h2 (by omega)
  · exact fun h => ⟨h 0 (by omega), fun h2 => h 1 (by omega), fun h3 => h 2 (by omega)⟩

/-- Before the end the micro-operation whose row of R84 holds is the writing step. -/
theorem State.EncSelected.exec_eq_next {s t : State} {op : EncOp} (h : s.EncSelected op) (hrun : s.enc.st = .run)
    (ho : s.enc.o < s.encM) : exec op.instr s = .next t ↔
      s.EncGroupHeld ∧ s.holds .encOut s.enc.o = true ∧ s.encWritten = t := by
  obtain ⟨op', hsel, hop⟩ := exists_encSelected_of_lt hrun ho
  rw [h.encSelect_eq, selectOf_pattern] at hsel
  obtain rfl : op = op' := Option.some.inj hsel
  rw [exec_encOp]
  exact hop t

/-- Where its entries exist it completes, with the next character. -/
theorem State.EncSelected.exists_encWrote {s : State} {op : EncOp} (h : s.EncSelected op) (hrun : s.enc.st = .run)
    (ho : s.enc.o < s.encM) (hin : s.HoldsFrom .encIn s.encBase s.encRem) (hout : s.holds .encOut s.enc.o = true)
    {ch : Byte} (hch : s.encNextChar = ch) : ∃ t, exec op.instr s = .next t ∧ EncWrote s t ch :=
  ⟨_, (h.exec_eq_next hrun ho).2 ⟨(State.encGroupHeld_iff ho).2 hin, hout, rfl⟩, hch ▸ s.encWritten_wrote⟩

/-- Up to the group's last byte the next character is the symbol of field `sel` (R122 to R125). -/
theorem State.encNextChar_of_le_rem {s : State} {k : Nat} (hsel : s.encSel = k) (h : k ≤ s.encRem) :
    s.encNextChar = encLut (encIdx k s.encGroupBytes.1 s.encGroupBytes.2.1 s.encGroupBytes.2.2) := by
  rw [State.encNextChar, hsel, if_pos h]

/-- Past the group's last byte the next character is `=` (R126, R127). -/
theorem State.encNextChar_of_rem_lt {s : State} (h : s.encRem < s.encSel) : s.encNextChar = Config.padChar :=
  if_neg (Nat.not_le.2 h)

/-! ## The four symbols -/

theorem idx0_eq_bits (b0 : Byte) : idx0 b0 = b0.extractLsb' 2 6 := by
  ext i hi
  rw [BitVec.getElem_extractLsb']
  interval_cases i <;> simp [idx0]

theorem idx1_eq_bits (b0 b1 : Byte) : idx1 b0 b1 = (b0 ++ b1).extractLsb' 4 6 := by
  ext i hi
  rw [BitVec.getElem_extractLsb', BitVec.getLsbD_append]
  interval_cases i <;> simp [idx1]

theorem idx2_eq_bits (b1 b2 : Byte) : idx2 b1 b2 = (b1 ++ b2).extractLsb' 6 6 := by
  ext i hi
  rw [BitVec.getElem_extractLsb', BitVec.getLsbD_append]
  interval_cases i <;> simp [idx2]

theorem idx3_eq_bits (b2 : Byte) : idx3 b2 = b2.extractLsb' 0 6 := by
  ext i hi
  rw [BitVec.getElem_extractLsb']
  interval_cases i <;> simp [idx3]

/-- Settles O10: `sel = 0` is at most `rem`, and the field is that of `b0`. -/
theorem sym0WritesTheFirstSymbol : Obligations.Sym0WritesTheFirstSymbol := by
  unfold Obligations.Sym0WritesTheFirstSymbol
  intro s hrun ho hsel i hin hout b0
  have hrow : s.EncSelected .sym0 := ⟨ho, hsel⟩
  have hch : s.encNextChar = encLut (b0.extractLsb' 2 6) := by
    rw [← idx0_eq_bits]
    exact State.encNextChar_of_le_rem hsel (Nat.zero_le _)
  exact hrow.exists_encWrote hrun ho hin hout hch

/-- Settles O11: `sel = 1` is at most `rem`, and the field is that of `b0` and `b1`. -/
theorem sym1WritesTheSecondSymbol : Obligations.Sym1WritesTheSecondSymbol := by
  unfold Obligations.Sym1WritesTheSecondSymbol
  intro s hrun ho hsel i rem hin hout b1
  have hrow : s.EncSelected .sym1 := ⟨ho, hsel⟩
  have hch : s.encNextChar = encLut ((s.byteAt .encIn i ++ b1).extractLsb' 4 6) := by
    rw [← idx1_eq_bits]
    exact State.encNextChar_of_le_rem hsel (State.encRem_of_lt ho).1
  exact hrow.exists_encWrote hrun ho hin hout hch

/-- Settles O12: `sel = 2` is at most `rem`, and the field is that of `b1`, which the group has, and `b2`. -/
theorem sym2WritesTheThirdSymbol : Obligations.Sym2WritesTheThirdSymbol := by
  unfold Obligations.Sym2WritesTheThirdSymbol
  intro s hrun ho hsel i rem hrem hin hout b2
  have hrow : s.EncSelected .sym2 := ⟨ho, hsel, hrem⟩
  have hb1 : s.encGroupBytes.2.1 = s.byteAt .encIn (i + 1) := if_pos hrem
  have hch : s.encNextChar = encLut ((s.byteAt .encIn (i + 1) ++ b2).extractLsb' 6 6) := by
    rw [← idx2_eq_bits, ← hb1]
    exact State.encNextChar_of_le_rem hsel hrem
  exact hrow.exists_encWrote hrun ho hin hout hch

/-- Settles O13: `sel = 3` is at most `rem`, and the field is that of `b2`, which the group has. -/
theorem sym3WritesTheFourthSymbol : Obligations.Sym3WritesTheFourthSymbol := by
  unfold Obligations.Sym3WritesTheFourthSymbol
  intro s hrun ho hsel i hrem hin hout
  have hfull : s.encRem = 3 := hrem
  have hrow : s.EncSelected .sym3 := ⟨ho, hsel, hrem⟩
  have hb2 : s.encGroupBytes.2.2 = s.byteAt .encIn (i + 2) := if_pos hrem
  have hch : s.encNextChar = encLut ((s.byteAt .encIn (i + 2)).extractLsb' 0 6) := by
    rw [← idx3_eq_bits, ← hb2]
    exact State.encNextChar_of_le_rem hsel hfull.ge
  exact hrow.exists_encWrote hrun ho (by rwa [hfull]) hout hch

/-! ## The padding -/

/-- Settles O14: `sel = 2` exceeds `rem`, in the last group of an input with one byte over. -/
theorem pad2WritesPadding : Obligations.Pad2WritesPadding := by
  unfold Obligations.Pad2WritesPadding
  intro s hrun ho hsel hrem hin hout
  have hone : s.encRem = 1 := hrem
  have hrow : s.EncSelected .pad2 := ⟨ho, hsel, hrem⟩
  have hlt : s.encRem < s.encSel := by
    rw [hone, show s.encSel = 2 from hsel]
    decide
  have hheld : s.HoldsFrom .encIn s.encBase s.encRem := by
    rw [hone]
    exact (State.holdsFrom_succ ..).2 ⟨hin, s.holdsFrom_zero _ _⟩
  exact ⟨by omega, by omega, hrow.exists_encWrote hrun ho hheld hout (State.encNextChar_of_rem_lt hlt)⟩

/-- Settles O15: `sel = 3` exceeds `rem`, in the last group of an input with one or two bytes over. -/
theorem pad3WritesPadding : Obligations.Pad3WritesPadding := by
  unfold Obligations.Pad3WritesPadding
  intro s hrun ho hsel rem hrem hin hout
  have hrow : s.EncSelected .pad3 := ⟨ho, hsel, hrem⟩
  have hlt : s.encRem < s.encSel := by
    rw [show s.encSel = 3 from hsel]
    exact Nat.lt_succ_of_le hrem
  exact ⟨by omega, by omega, hrow.exists_encWrote hrun ho hin hout (State.encNextChar_of_rem_lt hlt)⟩

/-! ## The end of the operation -/

/-- Settles O16: `ENC.FINISH` writes the registers only, and `DONE` shows in `STATUS`. -/
theorem encFinishPublishesTheLength : Obligations.EncFinishPublishesTheLength := by
  unfold Obligations.EncFinishPublishesTheLength
  intro s hrun ho t
  have hend : s.enc.o = s.encM := ho
  have hfinished : exec .encFinish s = .next s.encFinished := by
    rw [show Instr.encFinish = EncOp.finish.instr from rfl, exec_encOp]
    simp [execEncOp, execEncFinish, hrun, hend, State.encFinished]
  have ht : s.encFinished = t := by
    simp only [State.encFinished, t, ← ho]
  have hstatus := status_of_flags (u := .enc) (s := t) (e := 0) (d := true) (b := false) rfl rfl rfl
  exact ⟨ht ▸ hfinished, hstatus.trans (by decide)⟩

/-! ## The output multiplexer -/

/-- The source's four formulas are the four fields of the group word (R121). -/
theorem encIdx_eq_groupField {sel : Nat} (h : sel < 4) (b0 b1 b2 : Byte) :
    encIdx sel b0 b1 b2 = groupField (b0 ++ b1 ++ b2) sel := by
  have hcases : sel = 0 ∨ sel = 1 ∨ sel = 2 ∨ sel = 3 := by omega
  rcases hcases with rfl | rfl | rfl | rfl
  · exact idx0_eq_slice b0 b1 b2
  · exact idx1_eq_slice b0 b1 b2
  · exact idx2_eq_slice b0 b1 b2
  · exact idx3_eq_slice b0 b1 b2

/-- The next character is what the output multiplexer shows (R129). -/
theorem State.encNextChar_eq_encOutData (s : State) : s.encNextChar = s.encOutData := by
  have hsel : s.encSel < 4 := Nat.mod_lt _ (by decide)
  rw [State.encNextChar, encIdx_eq_groupField hsel]
  rfl

/-- Before the end the ports show the group's bytes and the next character (R31, R53). -/
theorem encPorts_of_lt {s : State} (hrun : s.enc.st = .run) (ho : s.enc.o < s.encM) :
    (encPorts s).reads = s.encReads ∧ (encPorts s).writes = [(s.enc.o, s.encOutData)] := by
  simp [encPorts, encBusy_iff.2 hrun, ho]

/-- Settles O17: the selected micro-operation is the writing step, whose character is the multiplexer's. -/
theorem outputMultiplexerFeedsEveryStep : Obligations.OutputMultiplexerFeedsEveryStep := by
  unfold Obligations.OutputMultiplexerFeedsEveryStep
  intro s t i hrun ho hdec hexec i0 rem b1 b2 G sel
  have hlt : s.enc.o < s.encM := ho
  obtain ⟨op, hop⟩ := exists_encSelected hlt.le
  obtain ⟨hvec, hinstr⟩ := hop.selects
  obtain rfl : op.instr = i := Except.ok.inj (hinstr.symm.trans (hvec ▸ hdec))
  obtain ⟨hheld, -, rfl⟩ := (hop.exec_eq_next hrun hlt).1 hexec
  obtain ⟨hlo, hhi⟩ := State.encRem_of_lt hlt
  obtain ⟨hreads, hwrites⟩ := encPorts_of_lt hrun hlt
  have hch : s.encWritten.byteAt .encOut s.enc.o = s.encOutData :=
    s.encWritten_wrote.1.trans s.encNextChar_eq_encOutData
  refine ⟨hch, hwrites.trans (by rw [hch]), fun hshort => ?_, hreads, hlo, hhi, (State.encGroupHeld_iff hlt).1 hheld⟩
  omega

/-! ## Concrete steps -/

/-- O10 to O13 and O17 say something of `Man`: the four symbols of `TWFu`, one after the other. -/
theorem man_symbols :
    (∃ t, exec .encSym0 (Tests.encAt 3 0 Tests.man) = .next t ∧ EncWrote (Tests.encAt 3 0 Tests.man) t 0x54) ∧
    (∃ t, exec .encSym1 (Tests.encAt 3 1 Tests.man) = .next t ∧ EncWrote (Tests.encAt 3 1 Tests.man) t 0x57 ∧
      (encPorts (Tests.encAt 3 1 Tests.man)).writes = [(1, 0x57)]) ∧
    (∃ t, exec .encSym2 (Tests.encAt 3 2 Tests.man) = .next t ∧ EncWrote (Tests.encAt 3 2 Tests.man) t 0x46) ∧
    (∃ t, exec .encSym3 (Tests.encAt 3 3 Tests.man) = .next t ∧ EncWrote (Tests.encAt 3 3 Tests.man) t 0x75) := by
  refine ⟨sym0WritesTheFirstSymbol _ rfl (by decide) rfl (by decide) rfl, ?_,
    sym2WritesTheThirdSymbol _ rfl (by decide) rfl (by decide) (by decide) rfl,
    sym3WritesTheFourthSymbol _ rfl (by decide) rfl rfl (by decide) rfl⟩
  obtain ⟨t, ht, hwrote⟩ := sym1WritesTheSecondSymbol (Tests.encAt 3 1 Tests.man) rfl (by decide) rfl (by decide) rfl
  obtain ⟨-, hport, -⟩ := outputMultiplexerFeedsEveryStep (Tests.encAt 3 1 Tests.man) t .encSym1 rfl (by decide) rfl ht
  exact ⟨t, ht, hwrote, hport.trans (by rw [hwrote.1]; rfl)⟩

/-- O14 to O16 say something of a single byte: two `=`, then the end with four characters. -/
theorem m_padding_and_finish :
    (∃ t, exec .encPad2 (Tests.encAt 1 2 Tests.man) = .next t ∧ EncWrote (Tests.encAt 1 2 Tests.man) t 0x3D) ∧
    (∃ t, exec .encPad3 (Tests.encAt 1 3 Tests.man) = .next t ∧ EncWrote (Tests.encAt 1 3 Tests.man) t 0x3D) ∧
    ∃ t, exec .encFinish (Tests.encAt 1 4 Tests.man) = .next t ∧ t.enc.outLen = 4 ∧ status .enc t = 0b0010 := by
  obtain ⟨-, -, hpad2⟩ := pad2WritesPadding (Tests.encAt 1 2 Tests.man) rfl (by decide) rfl rfl rfl rfl
  obtain ⟨-, -, hpad3⟩ := pad3WritesPadding (Tests.encAt 1 3 Tests.man) rfl (by decide) rfl (by decide) (by decide) rfl
  obtain ⟨hfinish, hstatus⟩ := encFinishPublishesTheLength (Tests.encAt 1 4 Tests.man) rfl rfl
  exact ⟨hpad2, hpad3, _, hfinish, rfl, hstatus⟩

end Sys2Proof.Machine
end

section
/-! PROOFS. Which strings `dec` accepts and which error it reports (O42, O43; 42_decoder_validation.md R147 to R149): the loop of
R106 passes every character before the first that offends, counting the `=`, and that one decides. -/

namespace Sys2Proof.Machine

/-! ## Characters that offend -/

/-- Character `k` offends: it is invalid, a `=` before the last two positions, or a symbol after a `=` (R148). -/
def Offends (b : List Byte) (k : Nat) : Prop :=
  decLut (byteOf b k) = Config.invEntry ∨ (byteOf b k = Config.padChar ∧ k + 2 < b.length) ∨
    (decLut (byteOf b k) ≤ 63 ∧ 0 < k ∧ byteOf b (k - 1) = Config.padChar)

/-- No character before index `i` offends. -/
def CleanBefore (b : List Byte) (i : Nat) : Prop := ∀ k, k < i → ¬ Offends b k

/-- The number of `=` before index `i` (R151). -/
def padsBefore (b : List Byte) (i : Nat) : Nat := Nat.count (fun k => cls (byteOf b k) = .pad) i

theorem cls_eq_pad_iff {c : Byte} : cls c = .pad ↔ c = Config.padChar :=
  ⟨eq_padChar_of_cls, fun h => h ▸ cls_padChar⟩

theorem decLut_le_iff {c : Byte} : decLut c ≤ 63 ↔ ∃ v, cls c = .val v := by
  refine ⟨exists_val_of_decLut_le, ?_⟩
  rintro ⟨v, hv⟩
  rw [cls_eq_val.1 hv]
  exact (by decide : ∀ w : Idx, w.setWidth 8 ≤ (63 : Byte)) v

/-- The three ways to offend, by the classes of the characters. -/
theorem offends_iff {b : List Byte} {k : Nat} : Offends b k ↔
    cls (byteOf b k) = .inv ∨ (cls (byteOf b k) = .pad ∧ k + 2 < b.length) ∨
      ((∃ v, cls (byteOf b k) = .val v) ∧ 0 < k ∧ cls (byteOf b (k - 1)) = .pad) := by
  simp only [Offends, cls_eq_inv, cls_eq_pad_iff, decLut_le_iff]

theorem CleanBefore.mono {b : List Byte} {i j : Nat} (h : CleanBefore b i) (hji : j ≤ i) : CleanBefore b j :=
  fun k hk => h k (hk.trans_le hji)

/-- Either no character of the string offends or one is the first that does (R148). -/
theorem cleanBefore_or_exists_first (b : List Byte) (n : Nat) :
    CleanBefore b n ∨ ∃ k, k < n ∧ Offends b k ∧ CleanBefore b k := by
  induction n with
  | zero => exact .inl fun k hk => absurd hk (Nat.not_lt_zero k)
  | succ n ih =>
    rcases ih with hclean | ⟨k, hk, hfirst⟩
    · by_cases hoff : Offends b n
      · exact .inr ⟨n, Nat.lt_succ_self n, hoff, hclean⟩
      · exact .inl fun k hk => (Nat.lt_succ_iff_lt_or_eq.1 hk).elim (hclean k) (fun h => h ▸ hoff)
    · exact .inr ⟨k, hk.trans (Nat.lt_succ_self n), hfirst⟩

/-! ## The number of `=` -/

theorem padsBefore_succ (b : List Byte) (i : Nat) :
    padsBefore b (i + 1) = padsBefore b i + if cls (byteOf b i) = .pad then 1 else 0 := Nat.count_succ ..

theorem padsBefore_eq_zero {b : List Byte} {i : Nat} (h : ∀ k, k < i → cls (byteOf b k) ≠ .pad) : padsBefore b i = 0 := by
  induction i with
  | zero => rfl
  | succ i ih => rw [padsBefore_succ, ih fun k hk => h k (Nat.lt_succ_of_lt hk), if_neg (h i (Nat.lt_succ_self i))]

/-- Where nothing has offended a `=` has been seen exactly when the last character is one (R150). -/
theorem CleanBefore.padsBefore_ne_zero_iff {b : List Byte} {i : Nat} (h : CleanBefore b i) :
    padsBefore b i ≠ 0 ↔ 0 < i ∧ cls (byteOf b (i - 1)) = .pad := by
  induction i with
  | zero => simp [padsBefore]
  | succ i ih =>
    have hkeep := h i (Nat.lt_succ_self i)
    rw [offends_iff] at hkeep
    rw [padsBefore_succ, Nat.add_sub_cancel]
    cases hc : cls (byteOf b i) with
    | pad => simp
    | inv => exact absurd (.inl hc) hkeep
    | val v =>
      have hzero : ¬ padsBefore b i ≠ 0 := fun hne =>
        hkeep (.inr (.inr ⟨⟨v, hc⟩, (ih (h.mono (Nat.le_succ i))).1 hne⟩))
      simpa using hzero

/-! ## The loop up to the first offender -/

section
variable {b : List Byte} {i : Nat}

/-- A character that does not offend passes, and is counted when it is a `=` (R144, R145). -/
theorem CleanBefore.decFrom_step (h : CleanBefore b i) (hi : i < b.length) (hkeep : ¬ Offends b i) :
    decFrom b i (padsBefore b i) = decFrom b (i + 1) (padsBefore b (i + 1)) := by
  rw [offends_iff] at hkeep
  rw [padsBefore_succ]
  cases hc : cls (byteOf b i) with
  | inv => exact absurd (.inl hc) hkeep
  | pad => rw [decFrom_of_pad hi hc, if_neg fun hearly => hkeep (.inr (.inl ⟨hc, hearly⟩)), if_pos rfl]
  | val v =>
    have hpads : ¬ padsBefore b i ≠ 0 := fun hne => hkeep (.inr (.inr ⟨⟨v, hc⟩, h.padsBefore_ne_zero_iff.1 hne⟩))
    rw [decFrom_of_val hi hc, if_neg hpads, if_neg Cls.noConfusion]
    rfl

/-- A character that offends ends the operation: an invalid one with its own error, any other with that of the padding. -/
theorem CleanBefore.decFrom_of_offends (h : CleanBefore b i) (hi : i < b.length) (hoff : Offends b i) :
    decFrom b i (padsBefore b i) =
      .error (if cls (byteOf b i) = .inv then .invalidCharacterError else .invalidPaddingError) := by
  rcases offends_iff.1 hoff with hc | ⟨hc, hearly⟩ | ⟨⟨v, hc⟩, hafter⟩
  · rw [decFrom_of_inv hi hc, if_pos hc]
  · rw [decFrom_of_pad hi hc, if_pos hearly, if_neg (by simp [hc])]
  · rw [decFrom_of_val hi hc, if_pos (h.padsBefore_ne_zero_iff.2 hafter), if_neg (by simp [hc])]

variable (hpos : b.length ≠ 0) (hmul : b.length % 4 = 0)
include hpos hmul

/-- The operation arrives at every index before which nothing offends. -/
theorem CleanBefore.dec_eq (h : CleanBefore b i) (hi : i ≤ b.length) : dec b = decFrom b i (padsBefore b i) := by
  induction i with
  | zero => exact dec_eq_decFrom hpos hmul
  | succ i ih =>
    have hbefore := h.mono (Nat.le_succ i)
    rw [ih hbefore (Nat.le_of_succ_le hi), hbefore.decFrom_step hi (h i (Nat.lt_succ_self i))]

theorem dec_of_first_offender (h : CleanBefore b i) (hi : i < b.length) (hoff : Offends b i) : dec b =
    .error (if cls (byteOf b i) = .inv then .invalidCharacterError else .invalidPaddingError) :=
  (h.dec_eq hpos hmul hi.le).trans (h.decFrom_of_offends hi hoff)

theorem dec_of_no_offender (h : CleanBefore b b.length) : dec b =
    if tailBitsBad b (padsBefore b b.length) then .error .invalidPaddingError else .ok (repackAll b) :=
  (h.dec_eq hpos hmul le_rfl).trans decFrom_end

end

/-! ## Which error is reported -/

theorem dec_of_length_eq_zero {b : List Byte} (h : b.length = 0) : dec b = .ok [] := if_pos h

theorem dec_of_bad_length {b : List Byte} (h : b.length % 4 ≠ 0) : dec b = .error .lengthError := by
  have hpos : b.length ≠ 0 := fun hz => h (by rw [hz])
  rw [dec, if_neg hpos, if_pos h]

theorem dec_eq_lengthError_iff {b : List Byte} : dec b = .error .lengthError ↔ b.length ≠ 0 ∧ b.length % 4 ≠ 0 := by
  by_cases hmul : b.length % 4 = 0
  · by_cases hpos : b.length = 0
    · simp [dec_of_length_eq_zero hpos, hpos]
    · rcases cleanBefore_or_exists_first b b.length with hclean | ⟨k, hk, hoff, hclean⟩
      · rw [dec_of_no_offender hpos hmul hclean]
        split <;> simp [hmul]
      · rw [dec_of_first_offender hpos hmul hclean hk hoff]
        split <;> simp [hmul]
  · have hpos : b.length ≠ 0 := fun hz => hmul (by rw [hz])
    simp [dec_of_bad_length hmul, hpos, hmul]

theorem dec_eq_invalidCharacterError_iff {b : List Byte} : dec b = .error .invalidCharacterError ↔
    b.length % 4 = 0 ∧ ∃ k, k < b.length ∧ cls (byteOf b k) = .inv ∧ CleanBefore b k := by
  constructor
  · intro h
    have hpos : b.length ≠ 0 := fun hz => by simp [dec_of_length_eq_zero hz] at h
    have hmul : b.length % 4 = 0 := by
      by_contra hbad
      simp [dec_of_bad_length hbad] at h
    rcases cleanBefore_or_exists_first b b.length with hclean | ⟨k, hk, hoff, hclean⟩
    · rw [dec_of_no_offender hpos hmul hclean] at h
      split at h <;> cases h
    · rw [dec_of_first_offender hpos hmul hclean hk hoff] at h
      split at h
      · next hinv => exact ⟨hmul, k, hk, hinv, hclean⟩
      · cases h
  · rintro ⟨hmul, k, hk, hinv, hclean⟩
    rw [dec_of_first_offender (Nat.ne_zero_of_lt hk) hmul hclean hk (offends_iff.2 (.inl hinv)), if_pos hinv]

/-- Settles O43: the loop is followed to the first offender. -/
theorem firstOffenderDecides : Obligations.FirstOffenderDecides := by
  unfold Obligations.FirstOffenderDecides
  refine fun b => ⟨dec_eq_lengthError_iff, ?invalid, fun hmul hfirst => ?padding⟩
  case invalid =>
    simp only [dec_eq_invalidCharacterError_iff, cls_eq_inv]
    rfl
  case padding =>
    obtain ⟨k, hk, hvalid, hoff, hclean⟩ := hfirst
    rw [dec_of_first_offender (Nat.ne_zero_of_lt hk) hmul hclean hk hoff, if_neg (mt cls_eq_inv.1 hvalid)]

/-! ## Which strings are accepted -/

/-- `dec` accepts the empty string, and a string of good length without an offender whose tail bits are zero. -/
theorem exists_dec_eq_ok_iff {b : List Byte} : (∃ out, dec b = .ok out) ↔
    b.length = 0 ∨
      (b.length % 4 = 0 ∧ CleanBefore b b.length ∧ tailBitsBad b (padsBefore b b.length) = false) := by
  by_cases hpos : b.length = 0
  · simp [dec_of_length_eq_zero hpos, hpos]
  · by_cases hmul : b.length % 4 = 0
    · rcases cleanBefore_or_exists_first b b.length with hclean | ⟨k, hk, hoff, hclean⟩
      · rw [dec_of_no_offender hpos hmul hclean]
        cases tailBitsBad b (padsBefore b b.length) <;> simp [hpos, hmul, hclean]
      · have hdirty : ¬ CleanBefore b b.length := fun h => h k hk hoff
        simp [dec_of_first_offender hpos hmul hclean hk hoff, hpos, hdirty]
    · simp [dec_of_bad_length hmul, hpos, hmul]

/-- No character offends exactly when rules 2 and 3 of R147 have nothing against the string. -/
theorem cleanBefore_length_iff {b : List Byte} (hlen : 2 ≤ b.length) : CleanBefore b b.length ↔
    (∀ k, k < b.length → decLut (byteOf b k) ≠ Config.invEntry) ∧
    (∀ k, k + 2 < b.length → byteOf b k ≠ Config.padChar) ∧
    (byteOf b (b.length - 2) = Config.padChar → byteOf b (b.length - 1) = Config.padChar) := by
  simp only [ne_eq, ← cls_eq_pad_iff, ← cls_eq_inv]
  constructor
  · intro h
    refine ⟨fun k hk hinv => h k hk (offends_iff.2 (.inl hinv)),
      fun k hk hpad => h k (by omega) (offends_iff.2 (.inr (.inl ⟨hpad, hk⟩))), fun hpad => ?_⟩
    have hlast := mt offends_iff.2 (h (b.length - 1) (by omega))
    cases hc : cls (byteOf b (b.length - 1)) with
    | pad => rfl
    | inv => exact absurd (.inl hc) hlast
    | val v =>
      refine absurd (.inr (.inr ⟨⟨v, hc⟩, by omega, ?_⟩)) hlast
      rwa [Nat.sub_sub]
  · rintro ⟨hvalid, hearly, hrun⟩ k hk hoff
    rcases offends_iff.1 hoff with hc | ⟨hc, hlt⟩ | ⟨⟨v, hc⟩, hpos, hpad⟩
    · exact hvalid k hk hc
    · exact hearly k hlt hc
    · have hplace : ¬ (k - 1) + 2 < b.length := fun hlt => hearly (k - 1) hlt hpad
      obtain rfl : k = b.length - 1 := by omega
      rw [Nat.sub_sub] at hpad
      simp [hrun hpad] at hc

/-- The `=` of a string that has none before the last two positions. -/
theorem padsBefore_length {b : List Byte} (hlen : 2 ≤ b.length)
    (hearly : ∀ k, k + 2 < b.length → cls (byteOf b k) ≠ .pad) : padsBefore b b.length =
      (if cls (byteOf b (b.length - 2)) = .pad then 1 else 0) +
      (if cls (byteOf b (b.length - 1)) = .pad then 1 else 0) := by
  obtain ⟨n, hn⟩ := Nat.exists_eq_add_of_le' hlen
  have hzero : padsBefore b n = 0 := padsBefore_eq_zero fun k hk => hearly k (by omega)
  rw [hn, padsBefore_succ, padsBefore_succ, hzero, Nat.zero_add]
  rfl

theorem tailBits2_eq_false_iff_mod : ∀ e : Byte, (e &&& 0xF != 0) = false ↔ e.toNat % 16 = 0 := by decide

theorem tailBits1_eq_false_iff_mod : ∀ e : Byte, (e &&& 0x3 != 0) = false ↔ e.toNat % 4 = 0 := by decide

/-- The tail-bit condition by the place of the first `=` (R149). -/
theorem tailBitsBad_eq_false_iff {b : List Byte} (hlen : 2 ≤ b.length)
    (hearly : ∀ k, k + 2 < b.length → byteOf b k ≠ Config.padChar)
    (hrun : byteOf b (b.length - 2) = Config.padChar → byteOf b (b.length - 1) = Config.padChar) :
    tailBitsBad b (padsBefore b b.length) = false ↔
      (byteOf b (b.length - 2) = Config.padChar → (decLut (byteOf b (b.length - 3))).toNat % 16 = 0) ∧
      (byteOf b (b.length - 2) ≠ Config.padChar → byteOf b (b.length - 1) = Config.padChar →
        (decLut (byteOf b (b.length - 2))).toNat % 4 = 0) := by
  simp only [ne_eq, ← cls_eq_pad_iff] at hearly hrun ⊢
  rw [padsBefore_length hlen hearly, tailBitsBad, ← tailBits2_eq_false_iff_mod, ← tailBits1_eq_false_iff_mod]
  by_cases h2 : cls (byteOf b (b.length - 2)) = .pad
  · simp [h2, hrun h2]
  · by_cases h1 : cls (byteOf b (b.length - 1)) = .pad <;> simp [h2, h1]

/-- Settles O42: the scan finds no offender exactly under rules 2 and 3, and then counts the `=` that rule 4 and R149 speak of. -/
theorem acceptanceIsTheFourRules : Obligations.AcceptanceIsTheFourRules := by
  unfold Obligations.AcceptanceIsTheFourRules
  refine fun b => exists_dec_eq_ok_iff.trans (or_congr_right' fun hpos => and_congr_right fun hmul => ?_)
  have hlen : 2 ≤ b.length := by omega
  rw [cleanBefore_length_iff hlen, and_assoc, and_assoc]
  exact and_congr_right fun _ => and_congr_right fun hearly => and_congr_right fun hrun =>
    tailBitsBad_eq_false_iff hlen hearly hrun

/-! ## Concrete strings -/

/-- O43 says something of R148's strings: `QQ@`, `QQ@=` and `Q=Q@`. -/
theorem length_then_first_offender_of_strings :
    dec [0x51, 0x51, 0x40] = .error .lengthError ∧
    dec [0x51, 0x51, 0x40, 0x3D] = .error .invalidCharacterError ∧
    dec [0x51, 0x3D, 0x51, 0x40] = .error .invalidPaddingError := by
  obtain ⟨hlength, -, -⟩ := firstOffenderDecides [0x51, 0x51, 0x40]
  obtain ⟨-, hinvalid, -⟩ := firstOffenderDecides [0x51, 0x51, 0x40, 0x3D]
  obtain ⟨-, -, hpadding⟩ := firstOffenderDecides [0x51, 0x3D, 0x51, 0x40]
  exact ⟨hlength.2 (by decide), hinvalid.2 ⟨rfl, 2, by decide, by decide, by decide⟩,
    hpadding rfl ⟨1, by decide, by decide, by decide, by decide⟩⟩

/-- `TR==` -/
def trPadded : List Byte := [0x54, 0x52, 0x3D, 0x3D]

/-- O42 says something of two strings that differ in a tail bit: `TQ==` is accepted, `TR==` is not (R146). -/
theorem tq_accepted_tr_rejected :
    (∃ out, dec Tests.tq = .ok out) ∧ ¬ ∃ out, dec trPadded = .ok out := by
  constructor
  · refine (acceptanceIsTheFourRules _).2 (.inr ⟨rfl, by decide, fun k hk => ?_, by decide, by decide, by decide⟩)
    have hlt : k < 2 := Nat.lt_of_add_lt_add_right hk
    interval_cases k
    · decide
    · decide
  · intro h
    rcases (acceptanceIsTheFourRules _).1 h with hempty | ⟨-, -, -, -, htail, -⟩
    · cases hempty
    · exact absurd (htail rfl) (by decide)

end Sys2Proof.Machine
end

section
/-! PROOFS. What the micro-operations of the validation do (O18 to O22; 42_decoder_validation.md R141 to R146): each gives the
registers that its rule states and leaves everything else alone. -/

namespace Sys2Proof.Machine

/-! ## The steps as register updates -/

section
variable {s : State}

theorem DecRegs.checked_of_zero {r : DecRegs} (h : r.len = 0) : r.checked = { r with st := .done } := if_pos h

theorem DecRegs.checked_of_bad {r : DecRegs} (h : r.len % 4 ≠ 0) : r.checked = r.raised .lengthError := by
  have hpos : r.len ≠ 0 := fun hz => h (by rw [hz])
  rw [DecRegs.checked, if_neg hpos, if_pos h]

theorem DecRegs.checked_of_good {r : DecRegs} (hpos : r.len ≠ 0) (hmul : r.len % 4 = 0) :
    r.checked = { r with st := .scan } := by
  rw [DecRegs.checked, if_neg hpos, if_neg (not_not_intro hmul)]

/-- While characters are left a micro-operation of the scan acts on the class of the next one (R142). -/
theorem readScan_of_holds (hh : s.holds .decIn s.dec.i = true) (f : Cls → Out) : readScan s f = f (s.decCls s.dec.i) :=
  memRead_of_holds hh _

theorem State.decScanning_of (hst : s.dec.st = .scan) (hi : s.dec.i < s.dec.len) : s.decScanning = true := by
  simp [State.decScanning, hst, hi]

section
variable (hst : s.dec.st = .scan) (hi : s.dec.i < s.dec.len) (hh : s.holds .decIn s.dec.i = true)
include hst hi hh

theorem exec_decScanVal_of_val {v : Idx} (hc : s.decCls s.dec.i = .val v) :
    exec .decScanVal s = .next (s.setDec (s.dec.scanned (.val v))) := by
  rw [← acceptVal_eq_setDec]
  refine (exec_scanOp .val s).trans ?_
  simp only [execScanOp, execDecScanVal, State.decScanning_of hst hi, readScan_of_holds hh, hc, if_true]

theorem exec_decScanPad_of_pad (hc : s.decCls s.dec.i = .pad) : exec .decScanPad s = acceptPad s := by
  refine (exec_scanOp .pad s).trans ?_
  simp only [execScanOp, execDecScanPad, State.decScanning_of hst hi, readScan_of_holds hh, hc, if_true]

theorem exec_decScanInv_of_inv (hc : s.decCls s.dec.i = .inv) :
    exec .decScanInv s = .next (raise .invalidCharacterError s) := by
  refine (exec_scanOp .inv s).trans ?_
  simp only [execScanOp, execDecScanInv, State.decScanning_of hst hi, readScan_of_holds hh, hc, if_true]

end

theorem acceptPad_of_early (h : s.dec.i + 2 < s.dec.len) :
    acceptPad s = .next (s.setDec (s.dec.raised .invalidPaddingError)) := if_pos h

/-- A `=` in the last two positions is counted, and the tail bits are judged at the first (R145). -/
theorem acceptPad_of_late (h : s.dec.len ≤ s.dec.i + 2) {p : Fin 3} (hp : p.val = s.dec.pad.val + 1) :
    acceptPad s = .next (s.setDec { s.dec with tailbad := tailbadAfterPad s.dec, pad := p, i := s.dec.i + 1 }) := by
  have hlt : s.dec.pad.val + 1 < 3 := hp ▸ p.isLt
  obtain rfl : p = ⟨s.dec.pad.val + 1, hlt⟩ := Fin.ext hp
  rw [acceptPad, if_neg h.not_gt, dif_pos hlt]
  rfl

end

/-! ## The judgement of the tail bits -/

theorem tailBad2_eq_mod : ∀ v : Idx, tailBad2 v = decide (v.toNat % 16 ≠ 0) := by decide

theorem tailBad1_eq_mod : ∀ v : Idx, tailBad1 v = decide (v.toNat % 4 ≠ 0) := by decide

section
variable {r : DecRegs}

theorem tailbadAfterPad_of_two_left (hi : r.i + 2 = r.len) (hpad : r.pad = 0) :
    tailbadAfterPad r = decide (r.prev.toNat % 16 ≠ 0) := by
  rw [tailbadAfterPad, if_pos hpad, tailJudgement, if_pos hi, tailBad2_eq_mod]

theorem tailbadAfterPad_of_one_left (hi : r.i + 1 = r.len) (hpad : r.pad = 0) :
    tailbadAfterPad r = decide (r.prev.toNat % 4 ≠ 0) := by
  rw [tailbadAfterPad, if_pos hpad, tailJudgement, if_neg (by omega), tailBad1_eq_mod]

theorem tailbadAfterPad_of_second (hpad : r.pad = 1) : tailbadAfterPad r = r.tailbad := by
  rw [tailbadAfterPad, if_neg (by rw [hpad]; decide)]

end

/-! ## The obligations -/

/-- Settles O20: an early `=` raises, one of the last two positions is counted, and only the first of the run is judged. -/
theorem scanPadCountsAndJudges : Obligations.ScanPadCountsAndJudges := by
  unfold Obligations.ScanPadCountsAndJudges
  intro s hst hi hh hentry
  rw [exec_decScanPad_of_pad hst hi hh (cls_eq_pad.2 hentry)]
  refine ⟨acceptPad_of_early, fun hplace hpad => ?_, fun hplace hpad => ?_, fun hplace hpad => ?_⟩
  · rw [acceptPad_of_late hplace.ge (p := 1) (by rw [hpad]; rfl), tailbadAfterPad_of_two_left hplace hpad]
  · rw [acceptPad_of_late (by omega) (p := 1) (by rw [hpad]; rfl), tailbadAfterPad_of_one_left hplace hpad]
  · rw [acceptPad_of_late hplace (p := 2) (by rw [hpad]; rfl), tailbadAfterPad_of_second hpad]

/-- Settles O18: the length decides; in a run there is neither an error nor a result yet. -/
theorem checkJudgesTheLength : Obligations.CheckJudgesTheLength := by
  unfold Obligations.CheckJudgesTheLength
  intro s hst
  have hexec : exec .decCheck s = .next (s.setDec s.dec.checked) :=
    (exec_decCheck s).trans (execDecCheck_of_check hst)
  rw [hexec]
  refine ⟨fun hz => ⟨by rw [DecRegs.checked_of_zero hz], fun hinv => ?_, rfl, rfl⟩,
    fun hbad => by rw [DecRegs.checked_of_bad hbad]; rfl, fun hpos hmul => by rw [DecRegs.checked_of_good hpos hmul]⟩
  obtain ⟨-, -, hdec, -⟩ := hinv
  rw [hdec.of_check hst]
  exact ⟨rfl, rfl⟩

/-- Settles O19: the class of the character is its entry's value; under the invariant a `=` before it stood at `L - 2`. -/
theorem scanValTakesTheSymbol : Obligations.ScanValTakesTheSymbol := by
  unfold Obligations.ScanValTakesTheSymbol
  intro s hst hi hh e hentry
  have hcls : s.decCls s.dec.i = .val (e.extractLsb' 0 6) := if_pos hentry
  rw [exec_decScanVal_of_val hst hi hh hcls]
  refine ⟨fun hpad => by rw [DecRegs.scanned, if_neg (not_not_intro hpad)],
    fun hpad => ⟨by rw [DecRegs.scanned, if_pos hpad]; rfl, fun hinv => ?_⟩⟩
  obtain ⟨-, -, hdec, -⟩ := hinv
  obtain ⟨-, -, -, -, -, -, -, -, hlast, -⟩ := (hdec.of_scan hst).1
  have hpos : 0 < s.dec.pad.val := Nat.pos_of_ne_zero fun hz => hpad (Fin.ext hz)
  have hroom := hlast hpos
  omega

/-- Settles O21: the class of the character is `INV`. -/
theorem scanInvRaises : Obligations.ScanInvRaises := by
  unfold Obligations.ScanInvRaises
  exact fun s hst hi hh hentry => exec_decScanInv_of_inv hst hi hh (cls_eq_inv.2 hentry)

/-- Settles O22: `DEC.tailbad` decides between the error entry and `REPACK`. -/
theorem scanEndGivesTheVerdict : Obligations.ScanEndGivesTheVerdict := by
  unfold Obligations.ScanEndGivesTheVerdict
  intro s hst hi
  have hexec : exec .decScanEnd s = .next (s.setDec s.dec.judged) :=
    (exec_scanOp .fin s).trans (execDecScanEnd_of_eq hst hi)
  rw [hexec, DecRegs.judged]
  exact ⟨fun hbad => by rw [if_pos hbad]; rfl, fun hgood => by rw [if_neg (by simp [hgood])]⟩

/-! ## Concrete steps -/

/-- The decoder before the last character of `QQ=Q`. -/
def symbolAfterPad : State := Tests.decAt (Tests.scanRegs 4 3 1 16 false) [0x51, 0x51, 0x3D, 0x51]

theorem inv_symbolAfterPad : Inv symbolAfterPad := by
  refine ⟨⟨rfl, rfl, rfl, rfl, rfl⟩, ⟨rfl, rfl⟩, ⟨rfl, by decide, by decide, ?_, rfl⟩, fun u _ => by cases u <;> rfl⟩
  refine ⟨by decide, rfl, by decide, rfl, rfl, by decide, fun k hk => ?symbols, fun k hlo hhi => ?pads, by decide,
    fun _ => by decide, by decide⟩
  case symbols =>
    have hlt : k < 2 := Nat.lt_of_add_lt_add_right hk
    interval_cases k
    · exact ⟨16, by decide⟩
    · exact ⟨16, by decide⟩
  case pads =>
    have hge : 2 ≤ k := Nat.le_of_succ_le_succ hlo
    obtain rfl : k = 2 := Nat.le_antisymm (Nat.le_of_lt_succ hhi) hge
    decide

/-- O19 says something of a reachable form: the symbol after the `=` of `QQ=Q` raises at the last character. -/
theorem symbolAfterPad_raises :
    exec .decScanVal symbolAfterPad = .next (symbolAfterPad.setDec (symbolAfterPad.dec.raised .invalidPaddingError)) ∧
    symbolAfterPad.dec.i + 1 = symbolAfterPad.dec.len := by
  obtain ⟨-, hraise⟩ := scanValTakesTheSymbol symbolAfterPad rfl (by decide) rfl (by decide)
  obtain ⟨hexec, hlast⟩ := hraise (by decide)
  exact ⟨hexec, hlast inv_symbolAfterPad⟩

/-- O20 and O22 say something of `TR==`: the first `=` judges, the second keeps the judgement, and the end raises. -/
theorem tr_scan :
    (∃ t, exec .decScanPad (Tests.decAt (Tests.scanRegs 4 2 0 17 false) trPadded) = .next t ∧
      t.dec = Tests.scanRegs 4 3 1 17 true) ∧
    (∃ t, exec .decScanPad (Tests.decAt (Tests.scanRegs 4 3 1 17 true) trPadded) = .next t ∧
      t.dec = Tests.scanRegs 4 4 2 17 true) ∧
    ∃ t, exec .decScanEnd (Tests.decAt (Tests.scanRegs 4 4 2 17 true) trPadded) = .next t ∧
      t.dec = (Tests.scanRegs 4 4 2 17 true).raised .invalidPaddingError := by
  obtain ⟨-, hfirst, -⟩ := scanPadCountsAndJudges (Tests.decAt (Tests.scanRegs 4 2 0 17 false) trPadded) rfl (by decide) rfl rfl
  obtain ⟨-, -, -, hsecond⟩ := scanPadCountsAndJudges (Tests.decAt (Tests.scanRegs 4 3 1 17 true) trPadded) rfl (by decide) rfl rfl
  obtain ⟨hbad, -⟩ := scanEndGivesTheVerdict (Tests.decAt (Tests.scanRegs 4 4 2 17 true) trPadded) rfl rfl
  exact ⟨⟨_, hfirst rfl rfl, rfl⟩, ⟨_, hsecond (by decide) rfl, rfl⟩, _, hbad rfl, rfl⟩

/-- O18 and O21 say something of a string of two characters, and of `QQ@=` at its third. -/
theorem bad_length_and_bad_character :
    (∃ t, exec .decCheck (Tests.decAt (DecRegs.started 2) [0x51, 0x51]) = .next t ∧ t.dec.err = some .lengthError) ∧
    ∃ t, exec .decScanInv (Tests.decAt (Tests.scanRegs 4 2 0 16 false) Tests.qqat) = .next t ∧
      t.dec.err = some .invalidCharacterError := by
  obtain ⟨-, hbad, -⟩ := checkJudgesTheLength (Tests.decAt (DecRegs.started 2) [0x51, 0x51]) rfl
  exact ⟨⟨_, hbad (by decide), rfl⟩, _, scanInvRaises _ rfl (by decide) rfl rfl, rfl⟩

end Sys2Proof.Machine
end

section
/-! PROOFS. Every step keeps the bytes repacked so far (O58; 43_decoder_repack.md R178): what the scan has established makes the
input a string that `dec` accepts, all its groups but the last are full, and nothing but the decoder's own step writes a byte that
the busy decoder uses. -/

namespace Sys2Proof.Machine

/-! ## The result that the repack builds -/

/-- The bytes of all groups of the decoder's input (R106). -/
def State.decResult (s : State) : List Byte := repackAll (s.bytes .decIn s.dec.len)

/-- What the scan has established is the form that `dec` accepts: symbols, then the `=` (R147, R150). -/
theorem Scanned.symbolsThenPads {s : State} (h : Scanned s) (hi : s.dec.i = s.dec.len) :
    SymbolsThenPads (s.bytes .decIn s.dec.len) s.dec.pad.val := by
  obtain ⟨-, -, -, -, -, hle, hval, hpad, -⟩ := h
  rw [hi] at hle hval hpad
  refine ⟨s.bytes .decIn (s.dec.len - s.dec.pad.val), fun c hc => ?_, ?_⟩
  · obtain ⟨k, hk, rfl⟩ := List.mem_map.1 hc
    rw [List.mem_range] at hk
    exact hval k (by omega)
  · have hpads : (List.range s.dec.pad.val).map (fun j => s.byteAt .decIn (s.dec.len - s.dec.pad.val + j)) =
        List.replicate s.dec.pad.val Config.padChar := by
      refine List.eq_replicate_iff.2 ⟨by simp, fun c hc => ?_⟩
      obtain ⟨j, hj, rfl⟩ := List.mem_map.1 hc
      rw [List.mem_range] at hj
      exact eq_padChar_of_cls (hpad _ (by omega) (by omega))
    calc s.bytes .decIn s.dec.len
        = s.bytes .decIn (s.dec.len - s.dec.pad.val + s.dec.pad.val) := by rw [Nat.sub_add_cancel hle]
      _ = s.bytes .decIn (s.dec.len - s.dec.pad.val) ++ List.replicate s.dec.pad.val Config.padChar := by
          rw [← hpads]
          simp only [State.bytes, List.range_add, List.map_append, List.map_map]
          rfl

/-- In `REPACK` the input is a string that `dec` accepts (R106, R146). -/
theorem DecInv.dec_eq_ok {s : State} (h : DecInv s) (hst : s.dec.st = .repack) :
    dec (s.bytes .decIn s.dec.len) = .ok s.decResult := by
  obtain ⟨hscan, hi, htail⟩ := h.of_repack hst
  have ⟨_, hmul, _⟩ := hscan
  have htailbits : tailBitsBad (s.bytes .decIn s.dec.len) s.dec.pad.val = false := (hscan.tailbad_eq hi).symm.trans htail
  exact dec_eq_ok_iff.2 ⟨by rwa [State.length_bytes],
    ⟨s.dec.pad.val, Nat.le_of_lt_succ s.dec.pad.isLt, hscan.symbolsThenPads hi, htailbits⟩, rfl⟩

/-- Under the invariant the statement of R178 is one about the bytes alone. -/
theorem decOutCorrect_iff {s : State} (hinv : DecInv s) : DecOutCorrect s ↔ (s.dec.st = .repack →
    ∀ k, k < min (3 * s.dec.g) s.decResult.length → s.byteAt .decOut k = byteOf s.decResult k) := by
  refine forall_congr' fun hst => ⟨?_, fun h => ⟨_, hinv.dec_eq_ok hst, h⟩⟩
  rintro ⟨out, hout, hbytes⟩
  obtain rfl : s.decResult = out := Except.ok.inj ((hinv.dec_eq_ok hst).symm.trans hout)
  exact hbytes

/-- Before the first group nothing is claimed of `DEC.OUT`. -/
theorem decOutCorrect_of_g_eq_zero {s : State} (hinv : DecInv s) (hg : s.dec.g = 0) : DecOutCorrect s := by
  rw [decOutCorrect_iff hinv, hg]
  exact fun _ k hk => absurd hk (by omega)

/-- A unit that does not repack has no bytes to keep. -/
theorem DecOutCorrect.of_not_repack {s : State} (h : s.dec.st ≠ .repack) : DecOutCorrect s := fun hst => absurd hst h

/-! ## The bytes of a group in the result -/

/-- Every group before the last gives three bytes, so that the bytes of group `g` begin at `3g` (R176, R178). -/
theorem Scanned.drop_decResult {s : State} (h : Scanned s) (hi : s.dec.i = s.dec.len) {g : Nat} (hg : g < s.decNG) :
    s.decResult.drop (3 * g) = repackAll ((s.bytes .decIn s.dec.len).drop (4 * g)) := by
  have ⟨_, _, _, _, _, _, hval, _⟩ := h
  have hpad := s.dec.pad.isLt
  unfold State.decNG at hg
  induction g with
  | zero => rfl
  | succ g ih =>
    have hsymbol (j : Nat) (hj : j < 4) : ∃ v, cls (byteOf (s.bytes .decIn s.dec.len) (4 * g + j)) = .val v := by
      rw [State.byteOf_bytes (by omega)]
      exact hval _ (by omega)
    obtain ⟨v0, h0⟩ := hsymbol 0 (by decide)
    obtain ⟨v1, h1⟩ := hsymbol 1 (by decide)
    obtain ⟨v2, h2⟩ := hsymbol 2 (by decide)
    obtain ⟨v3, h3⟩ := hsymbol 3 (by decide)
    rw [Nat.add_zero] at h0
    rw [Nat.mul_succ, ← List.drop_drop, ih (by omega), repackAll_drop (by rw [State.length_bytes]; omega),
      groupBytes_full h0 h1 h2 h3]
    rfl

/-- From `3 * DEC.g` on the result is the bytes of the current group and those of the groups after it. -/
theorem DecInv.drop_decResult_eq_append {s : State} (h : DecInv s) (hst : s.dec.st = .repack) (hg : s.dec.g < s.decNG) :
    s.decResult.drop (3 * s.dec.g) =
      s.decGroupBytes ++ repackAll ((s.bytes .decIn s.dec.len).drop (4 * (s.dec.g + 1))) := by
  obtain ⟨hscan, hi, -⟩ := h.of_repack hst
  rw [hscan.drop_decResult hi hg]
  unfold State.decNG at hg
  rw [repackAll_drop (by rw [State.length_bytes]; omega), State.byteOf_bytes (by omega), State.byteOf_bytes (by omega),
    State.byteOf_bytes (by omega), State.byteOf_bytes (by omega)]
  rfl

/-- A byte of the result among the three of the current group is one that the group has: only the last has fewer than three. -/
theorem DecInv.lt_length_decGroupBytes {s : State} (h : DecInv s) (hst : s.dec.st = .repack) (hg : s.dec.g < s.decNG) {j : Nat}
    (hj : j < 3) (hlt : 3 * s.dec.g + j < s.decResult.length) : j < s.decGroupBytes.length := by
  have hlen := (h.groupShape hst hg).length_decGroupBytes
  by_cases hlast : s.dec.g + 1 = s.decNG
  · have happend := congrArg List.length (h.drop_decResult_eq_append hst hg)
    unfold State.decNG at hlast
    rw [repackAll_of_short (by rw [List.length_drop, State.length_bytes]; omega), List.append_nil, List.length_drop] at happend
    omega
  · rw [hlen, State.decGroupPad, if_neg hlast]
    exact hj

/-- The bytes of the current group stand in the result from `3 * DEC.g` on. -/
theorem DecInv.byteOf_decResult_add {s : State} (h : DecInv s) (hst : s.dec.st = .repack) (hg : s.dec.g < s.decNG) {j : Nat}
    (hj : j < s.decGroupBytes.length) : byteOf s.decResult (3 * s.dec.g + j) = byteOf s.decGroupBytes j := by
  rw [← byteOf_drop, h.drop_decResult_eq_append hst hg]
  exact List.getD_append _ _ _ _ hj

/-! ## The decoder's own step -/

/-- A repack writes the bytes of its group, and leaves those before it. -/
theorem State.decRepacked_byteAt_decOut_of_lt {s : State} {k : Nat} (h : k < 3 * s.dec.g) :
    s.decRepacked.byteAt .decOut k = s.byteAt .decOut k := by
  simp [State.decRepacked, State.byteAt_writeBytes_of_lt h]

theorem State.decRepacked_byteAt_decOut_add {s : State} {j : Nat} (h : j < s.decGroupBytes.length) :
    s.decRepacked.byteAt .decOut (3 * s.dec.g + j) = byteOf s.decGroupBytes j := by
  simp [State.decRepacked, State.byteAt_writeBytes_add h]

/-- The repack adds the bytes of the next group (R172 to R174, R178). -/
theorem DecOutCorrect.decRepacked {s : State} (h : DecOutCorrect s) (hinv : DecInv s) (hst : s.dec.st = .repack)
    (hg : s.dec.g < s.decNG) (hov : s.overlap .decIn .decOut = false) : DecOutCorrect s.decRepacked := by
  have hresult : s.decRepacked.decResult = s.decResult := by
    rw [State.decResult, State.decRepacked_dec]
    exact congrArg repackAll (State.bytes_eq_iff.2 fun k _ => State.decRepacked_byteAt_decIn hov k)
  rw [decOutCorrect_iff (hinv.repacked hst hg hov), hresult, State.decRepacked_dec]
  intro _ k hk
  dsimp only at hk
  by_cases hold : k < 3 * s.dec.g
  · rw [State.decRepacked_byteAt_decOut_of_lt hold]
    exact (decOutCorrect_iff hinv).1 h hst k (by omega)
  · obtain ⟨j, rfl⟩ := Nat.exists_eq_add_of_le (Nat.le_of_not_lt hold)
    have hj := hinv.lt_length_decGroupBytes hst hg (j := j) (by omega) (by omega)
    rw [State.decRepacked_byteAt_decOut_add hj, hinv.byteOf_decResult_add hst hg hj]

/-- A step of the validation writes no group number (R141 to R146). -/
theorem State.decNext_g_of_not_repack {s : State} (hst : s.dec.st ≠ .repack) : s.decNext.dec.g = s.dec.g := by
  unfold State.decNext
  cases hcase : s.dec.st with
  | idle => rfl
  | done => rfl
  | check => exact s.dec.validates_checked.g
  | scan =>
    dsimp only
    split
    · exact s.dec.validates_judged.g
    · exact (s.dec.validates_scanned _).g
  | repack => exact absurd hcase hst

/-- While the decoder validates it has repacked no group (R102). -/
theorem DecInv.g_eq_zero {s : State} (h : DecInv s) (hb : decBusy s = true) (hst : s.dec.st ≠ .repack) : s.dec.g = 0 := by
  rcases decBusy_iff.1 hb with hcheck | hscan | hrepack
  · rw [h.of_check hcheck]
    rfl
  · exact (h.of_scan hscan).2
  · exact absurd hrepack hst

theorem DecOutCorrect.decNext {s : State} (h : DecOutCorrect s) (hinv : DecInv s) (hb : decBusy s = true)
    (hov : s.overlap .decIn .decOut = false) : DecOutCorrect s.decNext := by
  have ⟨_, _, hg, _⟩ := hinv
  by_cases hst : s.dec.st = .repack
  · rcases Nat.lt_or_eq_of_le hg with hlt | hend
    · have hnext : s.decNext = s.decRepacked := by simp [State.decNext, hst, hlt.ne]
      exact hnext ▸ h.decRepacked hinv hst hlt hov
    · have hnext : s.decNext = s.setDec s.dec.finished := by simp [State.decNext, hst, hend]
      exact .of_not_repack (by simp [hnext, DecRegs.finished])
  · exact decOutCorrect_of_g_eq_zero (hinv.decNext hov)
      ((State.decNext_g_of_not_repack hst).trans (hinv.g_eq_zero hb hst))

/-! ## The other moves -/

/-- `DecOutCorrect` is about the decoder's registers and, while it is busy, the bytes of its two buffers. -/
theorem DecOutCorrect.congr {s t : State} (h : DecOutCorrect s) (hdec : t.dec = s.dec)
    (hbytes : decBusy s = true → ∀ k, t.byteAt .decIn k = s.byteAt .decIn k ∧ t.byteAt .decOut k = s.byteAt .decOut k) :
    DecOutCorrect t := by
  intro hst
  rw [hdec] at hst
  have hb := hbytes (decBusy_iff.2 (.inr (.inr hst)))
  have hin : t.bytes .decIn s.dec.len = s.bytes .decIn s.dec.len := State.bytes_eq_iff.2 fun k _ => (hb k).1
  obtain ⟨out, hout, hwritten⟩ := h hst
  rw [hdec, hin]
  exact ⟨out, hout, fun k hk => ((hb k).2).trans (hwritten k hk)⟩

/-- While both units run their buffers share no address, so that the encoder writes no byte of the decoder's (R231). -/
theorem Inv.encNext_byteAt_dec {s : State} (h : Inv s) (he : encBusy s = true) (hd : decBusy s = true) (k : Nat) :
    s.encNext.byteAt .decIn k = s.byteAt .decIn k ∧ s.encNext.byteAt .decOut k = s.byteAt .decOut k := by
  obtain ⟨-, -, -, hplaced⟩ := h
  have hunits := (State.unsupported_dec_eq_false.1 (hplaced .dec hd)).2 he
  obtain ⟨hout, hin⟩ := State.overlap_of_unitsOverlap hunits .dec
  exact ⟨State.encNext_byteAt_of_overlap (by decide) hin k,
    State.encNext_byteAt_of_overlap (by decide) ((s.overlap_comm .encOut .decOut).trans hout) k⟩

theorem DecOutCorrect.move {s t : State} (h : DecOutCorrect s) (hinv : Inv s) (hm : Move s t) : DecOutCorrect t := by
  have ⟨_, henc, hdec, _⟩ := hinv
  cases hm with
  | bookkeeping => exact h.congr rfl fun _ _ => ⟨rfl, rfl⟩
  | encStart hb hu hlen => exact h.congr rfl fun _ _ => ⟨State.setEnc_byteAt .., State.setEnc_byteAt ..⟩
  | decStart hb hu hlen => exact .of_not_repack (by simp [DecRegs.started])
  | encStep hb hstep =>
    obtain ⟨-, -, rfl⟩ := (encStep_eq_next (encBusy_iff.1 hb) (henc.of_run (encBusy_iff.1 hb)).1).1 hstep
    exact h.congr (by simp) fun hd k => hinv.encNext_byteAt_dec hb hd k
  | decStep hb hstep =>
    obtain ⟨hu, -, rfl⟩ := (decStep_eq_next hdec hb).1 hstep
    exact h.decNext hdec hb (State.unsupported_dec_eq_false.1 hu).1
  | reset => exact .of_not_repack (by simp [resetState, DecRegs.reset])
  | writeIn hw =>
    have hbytes := fun hd k => byteAt_of_hostWriteIn (v := .dec) hw hd k
    obtain ⟨-, -, -, -, rfl⟩ := hostWriteIn_eq_next.1 hw
    exact h.congr (by simp) hbytes

/-- Settles O58: each of the moves that a step is made of keeps the invariant and the bytes repacked so far. -/
theorem decodedPrefixIsKept : Obligations.DecodedPrefixIsKept := by
  unfold Obligations.DecodedPrefixIsKept
  intro s t hinv h hstep
  have hboth : Inv t ∧ DecOutCorrect t := step_induction (P := fun u => Inv u ∧ DecOutCorrect u)
    (fun ⟨hu, hbytes⟩ hm => ⟨hu.move hm, hbytes.move hu hm⟩) ⟨hinv, h⟩ hstep
  exact hboth.2

/-- O58 says something of a state with one group of `TWFuTQ==` repacked: the step that it takes repacks the other. -/
theorem repacking_stepKeepsBytes :
    ∃ t, step Tests.repacking = .next t ∧ t.dec.st = .repack ∧ t.dec.g = 2 ∧ DecOutCorrect t := by
  obtain ⟨hinv, hcorrect, -⟩ := Tests.witness_DecodedPrefix
  have hstep : step Tests.repacking = .next Tests.repacking.decRepacked := rfl
  exact ⟨_, hstep, rfl, rfl, decodedPrefixIsKept _ _ hinv hcorrect hstep⟩

end Sys2Proof.Machine
end

section
/-! PROOFS. The repack operations (O23 to O25; 43_decoder_repack.md R172 to R174), `DEC.FINISH` (O26; R175), and the forms that
cannot occur (O27; R177, 30_encoding.md R83, R88): each repack operation has an effect on groups of its own form only. -/

namespace Sys2Proof.Machine

/-! ## What a repack operation can do -/

/-- The decoder's current group has the form that `op` has an output for (R172 to R174). -/
def State.GroupForm (s : State) : RepackOp → Prop
  | .g3 => ∃ v0 v1 v2 v3, s.decCls (4 * s.dec.g) = .val v0 ∧ s.decCls (4 * s.dec.g + 1) = .val v1 ∧
      s.decCls (4 * s.dec.g + 2) = .val v2 ∧ s.decCls (4 * s.dec.g + 3) = .val v3
  | .g2 => ∃ v0 v1 v2, s.decCls (4 * s.dec.g) = .val v0 ∧ s.decCls (4 * s.dec.g + 1) = .val v1 ∧
      s.decCls (4 * s.dec.g + 2) = .val v2 ∧ s.decCls (4 * s.dec.g + 3) = .pad
  | .g1 => ∃ v0 v1, s.decCls (4 * s.dec.g) = .val v0 ∧ s.decCls (4 * s.dec.g + 1) = .val v1 ∧
      s.decCls (4 * s.dec.g + 2) = .pad ∧ s.decCls (4 * s.dec.g + 3) = .pad
  | .fin => False

/-- The forms that no validated string has (R177). -/
def State.UnreachableGroup (s : State) : Prop :=
  (∀ v, s.decCls (4 * s.dec.g) ≠ .val v) ∨ (∀ v, s.decCls (4 * s.dec.g + 1) ≠ .val v) ∨
  s.decCls (4 * s.dec.g + 2) = .inv ∨ s.decCls (4 * s.dec.g + 3) = .inv ∨
  (s.decCls (4 * s.dec.g + 2) = .pad ∧ s.decCls (4 * s.dec.g + 3) ≠ .pad)

theorem State.GroupForm.not_unreachable {s : State} {op : RepackOp} (h : s.GroupForm op) : ¬ s.UnreachableGroup := by
  unfold State.UnreachableGroup
  cases op with
  | fin => exact h.elim
  | g3 =>
    obtain ⟨v0, v1, v2, v3, h0, h1, h2, h3⟩ := h
    simp [h0, h1, h2, h3]
  | g2 =>
    obtain ⟨v0, v1, v2, h0, h1, h2, h3⟩ := h
    simp [h0, h1, h2, h3]
  | g1 =>
    obtain ⟨v0, v1, h0, h1, h2, h3⟩ := h
    simp [h0, h1, h2, h3]

/-- On a group of its own form, where the entries exist, a repack operation writes the bytes of the group; it has no other
effect (R172 to R174). -/
theorem exec_repackOp_eq_next {s t : State} (hst : s.dec.st = .repack) (hg : s.dec.g < s.decNG) {op : RepackOp} (hop : op ≠ .fin) :
    exec op.instr s = .next t ↔ s.holdsGroup = true ∧ s.GroupForm op ∧
      s.HoldsFrom .decOut (3 * s.dec.g) s.decGroupBytes.length ∧ s.decRepacked = t := by
  have hrep : s.decRepacking = true := by simp [State.decRepacking, hst, hg]
  rw [exec_repackOp]
  cases op with
  | fin => exact absurd rfl hop
  | g3 =>
    simp only [execRepackOp, execDecRepackG3, hrep, if_true, readGroup_eq_next]
    refine and_congr_right fun _ => ?_
    split
    · next v0 v1 v2 v3 h0 h1 h2 h3 =>
      have hbytes : s.decGroupBytes = [byte0 v0 v1, byte1 v1 v2, byte2 v2 v3] := groupBytes_full h0 h1 h2 h3
      simp [State.GroupForm, h0, h1, h2, h3, memWrite_eq_next, nextGroup, State.decRepacked, hbytes, and_assoc]
    · next hother =>
      refine iff_of_false (badGroup_ne_next _ _ _ _) ?_
      rintro ⟨⟨v0, v1, v2, v3, h0, h1, h2, h3⟩, -⟩
      exact hother v0 v1 v2 v3 h0 h1 h2 h3
  | g2 =>
    simp only [execRepackOp, execDecRepackG2, hrep, if_true, readGroup_eq_next]
    refine and_congr_right fun _ => ?_
    split
    · next v0 v1 v2 h0 h1 h2 h3 =>
      have hbytes : s.decGroupBytes = [byte0 v0 v1, byte1 v1 v2] := groupBytes_one_pad h0 h1 h2 h3
      simp [State.GroupForm, h0, h1, h2, h3, memWrite_eq_next, nextGroup, State.decRepacked, hbytes, and_assoc]
    · next hother =>
      refine iff_of_false (badGroup_ne_next _ _ _ _) ?_
      rintro ⟨⟨v0, v1, v2, h0, h1, h2, h3⟩, -⟩
      exact hother v0 v1 v2 h0 h1 h2 h3
  | g1 =>
    simp only [execRepackOp, execDecRepackG1, hrep, if_true, readGroup_eq_next]
    refine and_congr_right fun _ => ?_
    split
    · next v0 v1 h0 h1 h2 h3 =>
      have hbytes : s.decGroupBytes = [byte0 v0 v1] := groupBytes_two_pads h0 h1 h2 h3
      simp [State.GroupForm, h0, h1, h2, h3, memWrite_eq_next, nextGroup, State.decRepacked, hbytes]
    · next hother =>
      refine iff_of_false (badGroup_ne_next _ _ _ _) ?_
      rintro ⟨⟨v0, v1, h0, h1, h2, h3⟩, -⟩
      exact hother v0 v1 h0 h1 h2 h3

/-- Where no group is left, or outside `REPACK`, no repack operation is selected (R83, R85). -/
theorem exec_repackOp_of_not_repacking {s : State} (h : s.decRepacking = false) {op : RepackOp} (hop : op ≠ .fin) :
    exec op.instr s = .fault .notSelected := by
  rw [exec_repackOp]
  cases op with
  | fin => exact absurd rfl hop
  | g3 => simp [execRepackOp, execDecRepackG3, h]
  | g2 => simp [execRepackOp, execDecRepackG2, h]
  | g1 => simp [execRepackOp, execDecRepackG1, h]

/-- The bytes of the current group, `DEC.g + 1`, and nothing else (R172 to R174). -/
theorem State.decRepacked_wrote (s : State) : DecWrote s s.decRepacked s.decGroupBytes := by
  have hkept : Kept s s.decRepacked (entries s .decOut (3 * s.dec.g) s.decGroupBytes.length) :=
    ((Kept.refl s _).writeBytes (Nat.le_refl _) (Nat.le_refl _)).setDec _
  exact ⟨by simp [State.decRepacked], State.decRepacked_dec s, fun _ hj => State.decRepacked_byteAt_decOut_add hj,
    hkept.bytes, hkept.model⟩

theorem State.holdsGroup_of {s : State} (h : ∀ j, j < 4 → s.holds .decIn (4 * s.dec.g + j) = true) : s.holdsGroup = true := by
  simp only [State.holdsGroup, Bool.and_eq_true]
  exact ⟨⟨⟨h 0 (by decide), h 1 (by decide)⟩, h 2 (by decide)⟩, h 3 (by decide)⟩

/-- On its own form a repack operation completes where the entries exist, with the bytes of the group. -/
theorem State.GroupForm.exists_decWrote {s : State} {op : RepackOp} (h : s.GroupForm op) (hst : s.dec.st = .repack)
    (hg : s.dec.g < s.decNG) (hin : ∀ j, j < 4 → s.holds .decIn (4 * s.dec.g + j) = true) {l : List Byte}
    (hbytes : s.decGroupBytes = l) (hout : s.HoldsFrom .decOut (3 * s.dec.g) l.length) :
    ∃ t, exec op.instr s = .next t ∧ DecWrote s t l := by
  have hop : op ≠ .fin := by
    rintro rfl
    exact h
  subst hbytes
  exact ⟨_, (exec_repackOp_eq_next hst hg hop).2 ⟨State.holdsGroup_of hin, h, hout, rfl⟩, s.decRepacked_wrote⟩

/-! ## The tail of a validated string -/

/-- A group with `n > 0` characters `=` is the last, and has all of the string's (R147, R177). -/
theorem State.last_of_decGroupPad {s : State} {n : Nat} (h : s.decGroupPad = n) (hn : n ≠ 0) :
    s.dec.g + 1 = s.decNG ∧ s.dec.pad.val = n := by
  unfold State.decGroupPad at h
  split at h
  · next hlast => exact ⟨hlast, h⟩
  · exact absurd h.symm hn

/-- After the scan the symbol before the first `=` has passed R149's judgement (R146). -/
theorem DecInv.tailJudgement_eq_false {s : State} (h : DecInv s) (hst : s.dec.st = .repack) (hpos : 0 < s.dec.pad.val) {v : Idx}
    (hv : s.decCls (s.dec.len - s.dec.pad.val - 1) = .val v) : tailJudgement s.dec.len (s.dec.len - s.dec.pad.val) v = false := by
  obtain ⟨⟨hlen, hmul, -, -, -, -, -, -, -, hprev, htail⟩, hi, hgood⟩ := h.of_repack hst
  have hpad := s.dec.pad.isLt
  rw [hi] at hprev htail
  obtain rfl : v = s.dec.prev := Cls.val.inj (hv.symm.trans (hprev (by omega)))
  simpa [hpos, hgood] using htail

/-- In a run a group with one `=` is the last, and the low two bits of its third symbol are 0 (R149, R173). -/
theorem DecInv.last_of_one_pad {s : State} (h : DecInv s) (hst : s.dec.st = .repack) (hg : s.dec.g < s.decNG) {v2 : Idx}
    (h2 : s.decCls (4 * s.dec.g + 2) = .val v2) (h3 : s.decCls (4 * s.dec.g + 3) = .pad) :
    s.dec.g + 1 = s.decNG ∧ s.dec.pad = 1 ∧ v2 &&& 0x3 = 0 := by
  have hone : s.decGroupPad = 1 := by
    obtain ⟨-, -, -, -, ⟨-, _, _, -, hv⟩ | ⟨hp, -⟩ | ⟨-, hv, -⟩⟩ := h.groupShape hst hg
    · simp [h3] at hv
    · exact hp
    · simp [h2] at hv
  obtain ⟨hlast, hpad⟩ := State.last_of_decGroupPad hone (by decide)
  obtain ⟨⟨-, hmul, -⟩, -⟩ := h.of_repack hst
  unfold State.decNG at hlast ⊢
  have hplace : s.dec.len - s.dec.pad.val - 1 = 4 * s.dec.g + 2 := by omega
  have htail := h.tailJudgement_eq_false hst (by omega) (hplace ▸ h2)
  rw [tailJudgement, if_neg (by omega)] at htail
  exact ⟨hlast, Fin.ext hpad, by simpa [tailBad1] using htail⟩

/-- In a run a group with two `=` is the last, and the low four bits of its second symbol are 0 (R149, R174). -/
theorem DecInv.last_of_two_pads {s : State} (h : DecInv s) (hst : s.dec.st = .repack) (hg : s.dec.g < s.decNG) {v1 : Idx}
    (h1 : s.decCls (4 * s.dec.g + 1) = .val v1) (h2 : s.decCls (4 * s.dec.g + 2) = .pad) :
    s.dec.g + 1 = s.decNG ∧ s.dec.pad = 2 ∧ v1 &&& 0xF = 0 := by
  have htwo : s.decGroupPad = 2 := by
    obtain ⟨-, -, -, -, ⟨-, _, _, hv, -⟩ | ⟨-, _, hv, -⟩ | ⟨hp, -⟩⟩ := h.groupShape hst hg
    · simp [h2] at hv
    · simp [h2] at hv
    · exact hp
  obtain ⟨hlast, hpad⟩ := State.last_of_decGroupPad htwo (by decide)
  obtain ⟨⟨-, hmul, -⟩, -⟩ := h.of_repack hst
  unfold State.decNG at hlast ⊢
  have hplace : s.dec.len - s.dec.pad.val - 1 = 4 * s.dec.g + 1 := by omega
  have htail := h.tailJudgement_eq_false hst (by omega) (hplace ▸ h1)
  rw [tailJudgement, if_pos (by omega)] at htail
  exact ⟨hlast, Fin.ext hpad, by simpa [tailBad2] using htail⟩

/-! ## The obligations on the repack -/

/-- Settles O23: the group is full, and its three bytes are the slices of `W`. -/
theorem repackG3WritesThreeBytes : Obligations.RepackG3WritesThreeBytes := by
  unfold Obligations.RepackG3WritesThreeBytes
  intro s v0 v1 v2 v3 hst hg hin hout e0 e1 e2 e3 W
  have h0 := cls_eq_val.2 e0
  have h1 := cls_eq_val.2 e1
  have h2 := cls_eq_val.2 e2
  have h3 := cls_eq_val.2 e3
  have hform : s.GroupForm .g3 := ⟨v0, v1, v2, v3, h0, h1, h2, h3⟩
  have hbytes : s.decGroupBytes = [W.extractLsb' 16 8, W.extractLsb' 8 8, W.extractLsb' 0 8] := by
    rw [State.decGroupBytes, groupBytes_full h0 h1 h2 h3, byte0_eq_slice v0 v1 v2 v3, byte1_eq_slice v0 v1 v2 v3,
      byte2_eq_slice v0 v1 v2 v3]
    rfl
  exact hform.exists_decWrote hst hg hin hbytes hout

/-- Settles O24: the group has one `=`, and its two bytes are the first slices of `W`. -/
theorem repackG2WritesTwoBytes : Obligations.RepackG2WritesTwoBytes := by
  unfold Obligations.RepackG2WritesTwoBytes
  intro s v0 v1 v2 hst hg hin hout e0 e1 e2 e3 W
  have h0 := cls_eq_val.2 e0
  have h1 := cls_eq_val.2 e1
  have h2 := cls_eq_val.2 e2
  have h3 := cls_eq_pad.2 e3
  have hform : s.GroupForm .g2 := ⟨v0, v1, v2, h0, h1, h2, h3⟩
  have hbytes : s.decGroupBytes = [W.extractLsb' 16 8, W.extractLsb' 8 8] := by
    rw [State.decGroupBytes, groupBytes_one_pad h0 h1 h2 h3, byte0_eq_slice v0 v1 v2 0, byte1_eq_slice v0 v1 v2 0]
    rfl
  refine ⟨hform.exists_decWrote hst hg hin hbytes hout, fun hinv => ?_⟩
  obtain ⟨-, -, hdec, -⟩ := hinv
  exact hdec.last_of_one_pad hst hg h2 h3

/-- Settles O25: the group has two `=`, and its byte is the first slice of `W`. -/
theorem repackG1WritesOneByte : Obligations.RepackG1WritesOneByte := by
  unfold Obligations.RepackG1WritesOneByte
  intro s v0 v1 hst hg hin hout e0 e1 e2 e3 W
  have h0 := cls_eq_val.2 e0
  have h1 := cls_eq_val.2 e1
  have h2 := cls_eq_pad.2 e2
  have h3 := cls_eq_pad.2 e3
  have hform : s.GroupForm .g1 := ⟨v0, v1, h0, h1, h2, h3⟩
  have hbytes : s.decGroupBytes = [W.extractLsb' 16 8] := by
    rw [State.decGroupBytes, groupBytes_two_pads h0 h1 h2 h3, byte0_eq_slice v0 v1 0 0]
    rfl
  have hheld : s.HoldsFrom .decOut (3 * s.dec.g) 1 := (State.holdsFrom_succ ..).2 ⟨hout, s.holdsFrom_zero _ _⟩
  refine ⟨hform.exists_decWrote hst hg hin hbytes hheld, fun hinv => ?_⟩
  obtain ⟨-, -, hdec, -⟩ := hinv
  exact hdec.last_of_two_pads hst hg h1 h2

/-- Settles O26: in a run the string has a group, and at most two `=`. -/
theorem decFinishPublishesTheLength : Obligations.DecFinishPublishesTheLength := by
  unfold Obligations.DecFinishPublishesTheLength
  intro s hst hg t
  have hexec : exec .decFinish s = .next t := (exec_repackOp .fin s).trans (execDecFinish_of_eq hst hg)
  refine ⟨hexec, rfl, rfl, fun hinv => ?_⟩
  obtain ⟨-, -, hdec, -⟩ := hinv
  obtain ⟨⟨hpos, hmul, -, herr, -⟩, -⟩ := hdec.of_repack hst
  have hpad := s.dec.pad.isLt
  have hlen : 4 ≤ s.dec.len := by omega
  have hout : 1 ≤ s.dec.len / 4 * 3 - s.dec.pad.val := by omega
  exact ⟨hlen, herr, hout⟩

/-! ## Forms that cannot occur -/

/-- No repack operation has an effect on such a group (R177). -/
theorem State.UnreachableGroup.exec_repackOp_ne_next {s : State} (h : s.UnreachableGroup) {op : RepackOp} (hop : op ≠ .fin)
    (t : State) : exec op.instr s ≠ .next t := by
  intro hexec
  cases hrep : s.decRepacking with
  | false => simp [exec_repackOp_of_not_repacking hrep hop] at hexec
  | true =>
    obtain ⟨hst, hg⟩ : s.dec.st = .repack ∧ s.dec.g < s.decNG := by simpa [State.decRepacking] using hrep
    obtain ⟨-, hform, -⟩ := (exec_repackOp_eq_next hst hg hop).1 hexec
    exact hform.not_unreachable h

/-- No output port shows a write for it (R177). -/
theorem State.UnreachableGroup.decPorts_writes {s : State} (h : s.UnreachableGroup) : (decPorts s).writes = [] := by
  have hnone : s.decWrites = [] := groupWrites_eq_nil h
  simp [decPorts, hnone]

/-- A third `=` is not counted (R88). -/
theorem exec_decScanPad_of_two {s : State} (hpad : s.dec.pad = 2) (hlast : s.dec.len ≤ s.dec.i + 2) (t : State) :
    exec .decScanPad s ≠ .next t := by
  have hstop : acceptPad s ≠ .next t := by
    rw [acceptPad, if_neg hlast.not_gt, dif_neg (by rw [hpad]; decide)]
    nofun
  rw [show Instr.decScanPad = ScanOp.pad.instr from rfl, exec_scanOp, execScanOp, execDecScanPad]
  split
  · rw [Ne, readScan_eq_next]
    rintro ⟨-, h⟩
    split at h
    · exact hstop h
    · cases h
    · cases h
  · nofun

/-- Outside `RUN` no micro-operation of the encoder is selected (R83, R84). -/
theorem execEncOp_of_not_run {s : State} (h : s.enc.st ≠ .run) (op : EncOp) : execEncOp op s = .fault .notSelected := by
  have hat (k : Nat) : s.encStepAt k = false := by simp [State.encStepAt, h]
  cases op with
  | sym0 => simp [execEncOp, execEncSym0, hat]
  | sym1 => simp [execEncOp, execEncSym1, hat]
  | sym2 => simp [execEncOp, execEncSym2, hat]
  | sym3 => simp [execEncOp, execEncSym3, hat]
  | pad2 => simp [execEncOp, execEncPad2, hat]
  | pad3 => simp [execEncOp, execEncPad3, hat]
  | finish => simp [execEncOp, execEncFinish, h]

/-- Outside `SCAN` no micro-operation of the scan is selected (R83, R85). -/
theorem execScanOp_of_not_scan {s : State} (h : s.dec.st ≠ .scan) (op : ScanOp) : execScanOp op s = .fault .notSelected := by
  have hscan : s.decScanning = false := by simp [State.decScanning, h]
  cases op with
  | val => simp [execScanOp, execDecScanVal, hscan]
  | pad => simp [execScanOp, execDecScanPad, hscan]
  | inv => simp [execScanOp, execDecScanInv, hscan]
  | fin => simp [execScanOp, execDecScanEnd, h]

/-- Outside `REPACK` no micro-operation of the repack is selected (R83, R85). -/
theorem execRepackOp_of_not_repack {s : State} (h : s.dec.st ≠ .repack) (op : RepackOp) :
    execRepackOp op s = .fault .notSelected := by
  have hrep : s.decRepacking = false := by simp [State.decRepacking, h]
  cases op with
  | g3 => simp [execRepackOp, execDecRepackG3, hrep]
  | g2 => simp [execRepackOp, execDecRepackG2, hrep]
  | g1 => simp [execRepackOp, execDecRepackG1, hrep]
  | fin => simp [execRepackOp, execDecFinish, h]

theorem exec_encSide_of_not_run {s : State} (h : s.enc.st ≠ .run) {i : Instr} (hi : i ∈ encSide) :
    exec i s = .fault .notSelected := by
  obtain ⟨op, -, rfl⟩ : ∃ op ∈ [EncOp.sym0, .sym1, .sym2, .sym3, .pad2, .pad3, .finish], op.instr = i := List.mem_map.1 hi
  exact (exec_encOp op s).trans (execEncOp_of_not_run h op)

theorem exec_decSide_of_rest {s : State} (h : decBusy s = false) {i : Instr} (hi : i ∈ decSide) :
    exec i s = .fault .notSelected := by
  have hrest := mt decBusy_iff.2 (Bool.eq_false_iff.1 h)
  obtain ⟨hcheck, hscan, hrepack⟩ : s.dec.st ≠ .check ∧ s.dec.st ≠ .scan ∧ s.dec.st ≠ .repack := by
    simpa only [not_or] using hrest
  have hi : i ∈ Instr.decCheck :: ([ScanOp.val, .pad, .inv, .fin].map ScanOp.instr ++
      [RepackOp.g3, .g2, .g1, .fin].map RepackOp.instr) := hi
  rcases List.mem_cons.1 hi with rfl | hi
  · simp [exec_decCheck, execDecCheck, hcheck]
  · rcases List.mem_append.1 hi with hi | hi
    · obtain ⟨op, -, rfl⟩ := List.mem_map.1 hi
      exact (exec_scanOp op s).trans (execScanOp_of_not_scan hscan op)
    · obtain ⟨op, -, rfl⟩ := List.mem_map.1 hi
      exact (exec_repackOp op s).trans (execRepackOp_of_not_repack hrepack op)

/-- Settles O27: the form of the group, the count of `=` and the state of the unit each rule an effect out. -/
theorem unreachableFormsGetNoEffect : Obligations.UnreachableFormsGetNoEffect := by
  unfold Obligations.UnreachableFormsGetNoEffect
  refine fun s => ⟨fun hbad => ?_, exec_decScanPad_of_two, fun h i hi => exec_encSide_of_not_run h hi,
    fun h i hi => exec_decSide_of_rest h hi⟩
  have hsymbol {c : Byte} (hc : ¬ decLut c ≤ 63) (v : Idx) : cls c ≠ .val v := fun hv => hc (decLut_le_iff.2 ⟨v, hv⟩)
  have hgroup : s.UnreachableGroup :=
    hbad.imp hsymbol (.imp hsymbol (.imp cls_eq_inv.2 (.imp cls_eq_inv.2 (.imp cls_eq_pad.2 (mt cls_eq_pad.1)))))
  refine ⟨fun i hi => ?_, hgroup.decPorts_writes⟩
  obtain ⟨op, hop, rfl⟩ : ∃ op ∈ [RepackOp.g3, .g2, .g1], op.instr = i := List.mem_map.1 hi
  have hne : op ≠ .fin := by
    rintro rfl
    exact absurd hop (by decide)
  exact hgroup.exec_repackOp_ne_next hne

/-! ## Concrete steps -/

/-- The decoder before the only group of `TWE=`. -/
def lastGroupOfTwo : State := Tests.decAt (Tests.repackRegs 4 1 4 0) Tests.twe

theorem inv_lastGroupOfTwo : Inv lastGroupOfTwo := by
  refine ⟨⟨rfl, rfl, rfl, rfl, rfl⟩, ⟨rfl, rfl⟩, ⟨rfl, by decide, by decide, ?_, rfl, rfl⟩, fun u _ => by cases u <;> rfl⟩
  refine ⟨by decide, rfl, by decide, rfl, rfl, by decide, fun k hk => ?symbols, fun k hlo hhi => ?pads, by decide,
    fun _ => by decide, by decide⟩
  case symbols =>
    have hlt : k < 3 := Nat.lt_of_add_lt_add_right hk
    interval_cases k
    · exact ⟨19, by decide⟩
    · exact ⟨22, by decide⟩
    · exact ⟨4, by decide⟩
  case pads =>
    have hge : 3 ≤ k := Nat.le_of_succ_le_succ hlo
    obtain rfl : k = 3 := Nat.le_antisymm (Nat.le_of_lt_succ hhi) hge
    decide

/-- O24 says something of a reachable form: the group of `TWE=` gives `Ma`. -/
theorem lastGroupOfTwo_repacked :
    (∃ t, exec .decRepackG2 lastGroupOfTwo = .next t ∧ DecWrote lastGroupOfTwo t [0x4D, 0x61]) ∧
    lastGroupOfTwo.dec.g + 1 = lastGroupOfTwo.dec.len / 4 := by
  obtain ⟨hwrote, hrun⟩ := repackG2WritesTwoBytes lastGroupOfTwo 19 22 4 rfl (by decide) (fun _ _ => rfl) (fun _ _ => rfl)
    (by decide) (by decide) (by decide) (by decide)
  obtain ⟨hlast, -⟩ := hrun inv_lastGroupOfTwo
  exact ⟨hwrote, hlast⟩

/-- O26 says something of the state after it: the length published is 2. -/
theorem lastGroupOfTwo_finished :
    Inv lastGroupOfTwo.decRepacked ∧
    ∃ t, exec .decFinish lastGroupOfTwo.decRepacked = .next t ∧ t.dec.outLen = 2 ∧ done .dec t = true := by
  have hheld : lastGroupOfTwo.DecHeld := ⟨nofun, fun _ _ => ⟨rfl, fun _ _ => rfl⟩⟩
  obtain ⟨hexec, -, hdone, -⟩ := decFinishPublishesTheLength lastGroupOfTwo.decRepacked rfl rfl
  exact ⟨inv_lastGroupOfTwo.decNext rfl hheld, _, hexec, rfl, hdone⟩

/-- O23 says something of `TWFu`, and O25 of the last group of `TWFuTQ==`, which a run reaches. -/
theorem man_and_m_repacked :
    (∃ t, exec .decRepackG3 (Tests.decAt (Tests.repackRegs 4 0 46 0) Tests.twfu) = .next t ∧
      DecWrote (Tests.decAt (Tests.repackRegs 4 0 46 0) Tests.twfu) t Tests.man) ∧
    (∃ t, exec .decRepackG1 Tests.repacking = .next t ∧ DecWrote Tests.repacking t [0x4D]) ∧ Tests.repacking.dec.pad = 2 := by
  obtain ⟨hwrote, hrun⟩ := repackG1WritesOneByte Tests.repacking 19 16 rfl (by decide) (fun _ _ => rfl) rfl
    (by decide) (by decide) (by decide) (by decide)
  obtain ⟨-, hpad, -⟩ := hrun Tests.witness_repacking_inv
  exact ⟨repackG3WritesThreeBytes _ 19 22 5 46 rfl (by decide) (fun _ _ => rfl) (fun _ _ => rfl)
    (by decide) (by decide) (by decide) (by decide), hwrote, hpad⟩

/-- O27 says something of the group `QQ=Q`, which `DEC.REPACK.G3` has no effect on, and of the units at rest after reset. -/
theorem bad_group_and_rest :
    (∀ t, exec .decRepackG3 (Tests.decAt (Tests.repackRegs 4 0 0 0) [0x51, 0x51, 0x3D, 0x51]) ≠ .next t) ∧
    exec .encSym0 State.reset = .fault .notSelected ∧ exec .decCheck State.reset = .fault .notSelected := by
  obtain ⟨hgroup, -⟩ := unreachableFormsGetNoEffect (Tests.decAt (Tests.repackRegs 4 0 0 0) [0x51, 0x51, 0x3D, 0x51])
  obtain ⟨hnone, -⟩ := hgroup (.inr (.inr (.inr (.inr ⟨by decide, by decide⟩))))
  obtain ⟨-, -, henc, hdec⟩ := unreachableFormsGetNoEffect State.reset
  exact ⟨hnone _ (.head _), henc nofun _ (.head _), hdec rfl _ (.head _)⟩

end Sys2Proof.Machine
end

section
/-! PROOFS. Where an error can appear (O48; 60_exceptions.md R196, R197): an operation of the decoder that has an effect is the
decoder's own next step, and of those only the steps of `CHECK` and `SCAN` can enter an error, with the error entry as all they
do. -/

namespace Sys2Proof.Machine

/-! ## The next state, by the state of the decoder -/

section
variable {s : State}

theorem State.decNext_of_check (hst : s.dec.st = .check) : s.decNext = s.setDec s.dec.checked := by
  simp [State.decNext, hst]

theorem State.decNext_of_scan_ne (hst : s.dec.st = .scan) (hi : s.dec.i ≠ s.dec.len) :
    s.decNext = s.setDec (s.dec.scanned (s.decCls s.dec.i)) := by
  simp [State.decNext, hst, hi]

theorem State.decNext_of_scan_eq (hst : s.dec.st = .scan) (hi : s.dec.i = s.dec.len) : s.decNext = s.setDec s.dec.judged := by
  simp [State.decNext, hst, hi]

theorem State.decNext_of_repack_ne (hst : s.dec.st = .repack) (hg : s.dec.g ≠ s.decNG) : s.decNext = s.decRepacked := by
  simp [State.decNext, hst, hg]

theorem State.decNext_of_repack_eq (hst : s.dec.st = .repack) (hg : s.dec.g = s.decNG) :
    s.decNext = s.setDec s.dec.finished := by
  simp [State.decNext, hst, hg]

end

/-! ## An operation that has an effect is the decoder's next step -/

section
variable {s t : State}

/-- A `=` that is accepted, or raises, gives the registers of the scan; a third one is not counted (R88, R145). -/
theorem eq_of_acceptPad_eq_next (h : acceptPad s = .next t) : s.setDec (s.dec.scanned .pad) = t := by
  by_cases hearly : s.dec.i + 2 < s.dec.len
  · rw [acceptPad_of_early hearly] at h
    rw [DecRegs.scanned, if_pos hearly]
    exact Host.Outcome.next.inj h
  · have hpad : s.dec.pad.val + 1 < 3 := by
      by_contra hpad
      simp [acceptPad, hearly, hpad] at h
    have hadd : (s.dec.pad + 1).val = s.dec.pad.val + 1 := Fin.val_add_one_of_lt' hpad
    rw [acceptPad_of_late (Nat.le_of_not_lt hearly) hadd] at h
    rw [DecRegs.scanned, if_neg hearly]
    exact Host.Outcome.next.inj h

/-- A micro-operation that reads the next character has an effect only in `SCAN`, with a character left (R142). -/
theorem scanning_readScan_eq_next {f : Cls → Out} :
    (if s.decScanning then readScan s f else .fault .notSelected) = .next t ↔
      (s.dec.st = .scan ∧ s.dec.i < s.dec.len) ∧ s.holds .decIn s.dec.i = true ∧ f (s.decCls s.dec.i) = .next t := by
  have hscanning : s.decScanning = true ↔ s.dec.st = .scan ∧ s.dec.i < s.dec.len := by simp [State.decScanning]
  rw [← hscanning, ← readScan_eq_next]
  split <;> simp_all

theorem decNext_of_execDecCheck (h : execDecCheck s = .next t) : s.decNext = t := by
  have hst : s.dec.st = .check := by
    by_contra hst
    simp [execDecCheck, hst] at h
  rw [execDecCheck_of_check hst] at h
  exact (State.decNext_of_check hst).trans (Host.Outcome.next.inj h)

theorem decNext_of_execScanOp {op : ScanOp} (h : execScanOp op s = .next t) : s.decNext = t := by
  cases op with
  | val =>
    obtain ⟨⟨hst, hi⟩, -, h⟩ := scanning_readScan_eq_next.1 h
    rw [State.decNext_of_scan_ne hst hi.ne]
    cases hc : s.decCls s.dec.i with
    | val v =>
      rw [hc] at h
      exact (acceptVal_eq_setDec v s).symm.trans (Host.Outcome.next.inj h)
    | pad => simp [hc] at h
    | inv => simp [hc] at h
  | pad =>
    obtain ⟨⟨hst, hi⟩, -, h⟩ := scanning_readScan_eq_next.1 h
    rw [State.decNext_of_scan_ne hst hi.ne]
    cases hc : s.decCls s.dec.i with
    | val v => simp [hc] at h
    | pad =>
      rw [hc] at h
      exact eq_of_acceptPad_eq_next h
    | inv => simp [hc] at h
  | inv =>
    obtain ⟨⟨hst, hi⟩, -, h⟩ := scanning_readScan_eq_next.1 h
    rw [State.decNext_of_scan_ne hst hi.ne]
    cases hc : s.decCls s.dec.i with
    | val v => simp [hc] at h
    | pad => simp [hc] at h
    | inv =>
      rw [hc] at h
      exact Host.Outcome.next.inj h
  | fin =>
    change execDecScanEnd s = .next t at h
    obtain ⟨hst, hi⟩ : s.dec.st = .scan ∧ s.dec.i = s.dec.len := by
      by_contra hend
      simp [execDecScanEnd, hend] at h
    rw [execDecScanEnd_of_eq hst hi] at h
    exact (State.decNext_of_scan_eq hst hi).trans (Host.Outcome.next.inj h)

theorem decNext_of_execRepackOp {op : RepackOp} (h : execRepackOp op s = .next t) : s.decNext = t := by
  by_cases hop : op = .fin
  · subst hop
    change execDecFinish s = .next t at h
    obtain ⟨hst, hg⟩ : s.dec.st = .repack ∧ s.dec.g = s.decNG := by
      by_contra hend
      simp [execDecFinish, hend] at h
    rw [execDecFinish_of_eq hst hg] at h
    exact (State.decNext_of_repack_eq hst hg).trans (Host.Outcome.next.inj h)
  · have hexec : exec op.instr s = .next t := (exec_repackOp op s).trans h
    cases hrep : s.decRepacking with
    | false => simp [exec_repackOp_of_not_repacking hrep hop] at hexec
    | true =>
      obtain ⟨hst, hg⟩ : s.dec.st = .repack ∧ s.dec.g < s.decNG := by simpa [State.decRepacking] using hrep
      obtain ⟨-, -, -, hnext⟩ := (exec_repackOp_eq_next hst hg hop).1 hexec
      exact (State.decNext_of_repack_ne hst hg.ne).trans hnext

/-- In whatever state, a micro-operation of the decoder does what its state selects, or has no effect (R83, R85). -/
theorem decNext_of_exec_decSide {i : Instr} (hi : i ∈ decSide) (h : exec i s = .next t) : s.decNext = t := by
  have hi : i ∈ Instr.decCheck :: ([ScanOp.val, .pad, .inv, .fin].map ScanOp.instr ++
      [RepackOp.g3, .g2, .g1, .fin].map RepackOp.instr) := hi
  rcases List.mem_cons.1 hi with rfl | hi
  · exact decNext_of_execDecCheck h
  · rcases List.mem_append.1 hi with hi | hi
    · obtain ⟨op, -, rfl⟩ := List.mem_map.1 hi
      exact decNext_of_execScanOp ((exec_scanOp op s).symm.trans h)
    · obtain ⟨op, -, rfl⟩ := List.mem_map.1 hi
      exact decNext_of_execRepackOp ((exec_repackOp op s).symm.trans h)

end

/-! ## What a step does with the error code -/

/-- `r'` is the error entry from `r` (R196), or has the error code of `r`. -/
def DecRegs.RaisesOrKeeps (r r' : DecRegs) : Prop := (∃ k, r' = r.raised k) ∨ r'.err = r.err

theorem DecRegs.raisesOrKeeps_checked (r : DecRegs) : r.RaisesOrKeeps r.checked := by
  unfold DecRegs.checked
  split
  · exact .inr rfl
  · split
    · exact .inl ⟨_, rfl⟩
    · exact .inr rfl

theorem DecRegs.raisesOrKeeps_scanned (r : DecRegs) (c : Cls) : r.RaisesOrKeeps (r.scanned c) := by
  cases c with
  | val v =>
    simp only [DecRegs.scanned]
    split
    · exact .inl ⟨_, rfl⟩
    · exact .inr rfl
  | pad =>
    simp only [DecRegs.scanned]
    split
    · exact .inl ⟨_, rfl⟩
    · exact .inr rfl
  | inv => exact .inl ⟨_, rfl⟩

theorem DecRegs.raisesOrKeeps_judged (r : DecRegs) : r.RaisesOrKeeps r.judged := by
  unfold DecRegs.judged
  split
  · exact .inl ⟨_, rfl⟩
  · exact .inr rfl

theorem DecRegs.RaisesOrKeeps.eq_raised {r r' : DecRegs} (h : r.RaisesOrKeeps r') {k : ErrKind} (hnone : r.err = none)
    (herr : r'.err = some k) : r' = r.raised k := by
  rcases h with ⟨k', rfl⟩ | hkeep
  · obtain rfl : k' = k := Option.some.inj herr
    rfl
  · rw [hkeep, hnone] at herr
    cases herr

/-- An error that the decoder's step makes appear is entered from `CHECK` or `SCAN`, and is the error entry (R196, R197). -/
theorem State.decNext_of_error {s : State} {k : ErrKind} (hnone : s.dec.err = none) (herr : s.decNext.dec.err = some k) :
    (s.dec.st = .check ∨ s.dec.st = .scan) ∧ s.decNext = s.setDec (s.dec.raised k) := by
  have hentry {r : DecRegs} (hr : s.dec.RaisesOrKeeps r) (hnext : s.decNext = s.setDec r) :
      s.decNext = s.setDec (s.dec.raised k) := by
    rw [hnext] at herr ⊢
    exact congrArg s.setDec (hr.eq_raised hnone herr)
  cases hst : s.dec.st with
  | idle => simp [State.decNext, hst, hnone] at herr
  | check => exact ⟨.inl rfl, hentry s.dec.raisesOrKeeps_checked (State.decNext_of_check hst)⟩
  | scan =>
    refine ⟨.inr rfl, ?_⟩
    by_cases hi : s.dec.i = s.dec.len
    · exact hentry s.dec.raisesOrKeeps_judged (State.decNext_of_scan_eq hst hi)
    · exact hentry (s.dec.raisesOrKeeps_scanned _) (State.decNext_of_scan_ne hst hi)
  | repack =>
    have hkeep : s.decNext.dec.err = s.dec.err := by
      by_cases hg : s.dec.g = s.decNG
      · rw [State.decNext_of_repack_eq hst hg]
        rfl
      · rw [State.decNext_of_repack_ne hst hg, State.decRepacked_dec]
    rw [hkeep, hnone] at herr
    cases herr
  | done => simp [State.decNext, hst, hnone] at herr

/-! ## The obligation -/

/-- Settles O48: of all the rows only a micro-operation of the decoder, its next step, can make an error appear; a START and
`RESET` clear the code, and the encoder and the table reads leave the decoder's registers alone. -/
theorem errorsAppearOnlyInValidation : Obligations.ErrorsAppearOnlyInValidation := by
  unfold Obligations.ErrorsAppearOnlyInValidation
  intro i s t k hwhole h hnone herr
  have hcode : t.dec.err ≠ s.dec.err := by simp [hnone, herr]
  rcases exec_cases i with henc | (hmicro | ⟨n, rfl | rfl⟩) | rfl | ⟨e, hlut⟩
  · obtain ⟨F, hF, rfl⟩ := henc.unitOp.effect h
    exact absurd (congrArg DecRegs.err (hF.dec_eq s)) hcode
  · obtain rfl := decNext_of_exec_decSide hmicro h
    exact State.decNext_of_error hnone herr
  · rcases execDecStart_eq_next.1 h with ⟨-, rfl⟩ | ⟨-, -, -, rfl⟩
    · exact absurd rfl hcode
    · cases herr
  · exact absurd rfl (hwhole n)
  · obtain rfl : resetState s = t := Host.Outcome.next.inj h
    cases herr
  · obtain rfl := answerLut_eq_next.1 ((hlut s).symm.trans h)
    exact absurd rfl hcode

/-- O48 says something of `TR==`: the error that its end makes appear is the error entry, and `DEC.OUT` is as before. -/
theorem tr_error_is_the_entry : ∃ t, exec .decScanEnd (Tests.decAt (Tests.scanRegs 4 4 2 17 true) trPadded) = .next t ∧
    t = raise .invalidPaddingError (Tests.decAt (Tests.scanRegs 4 4 2 17 true) trPadded) ∧
    t.decOut = (Tests.decAt (Tests.scanRegs 4 4 2 17 true) trPadded).decOut := by
  obtain ⟨-, -, t, hexec, hdec⟩ := tr_scan
  have herr : t.dec.err = some .invalidPaddingError := by rw [hdec]; rfl
  obtain ⟨-, rfl⟩ := errorsAppearOnlyInValidation .decScanEnd _ t _ (fun _ => nofun) hexec rfl herr
  exact ⟨_, hexec, rfl, rfl⟩

end Sys2Proof.Machine
end

section
/-! PROOFS. What `RESET` does (O32; 70_reset_and_hazards.md R220, R221, 10_state.md R37): the registers and what is known of the
`OUT` buffers. That it leaves the input buffers and the parameters alone is `InputKept.reset`, that it leaves the system's
memory alone is `resetState_sysByte`. -/

namespace Sys2Proof.Machine

/-- `RESET` completes in every state (R220). -/
theorem exec_reset (s : State) : exec .reset s = .next (resetState s) := by rfl

/-- Both `STATUS` registers read 0 after `RESET`: at rest, not done and without an error (R37). -/
theorem resetState_status (s : State) (u : UnitId) : status u (resetState s) = 0b0000 := by
  have herr : statusErr u (resetState s) = 0 := by cases u <;> rfl
  have hdone : done u (resetState s) = false := by cases u <;> rfl
  have hbusy : busy u (resetState s) = false := by cases u <;> rfl
  rw [status_of_flags herr hdone hbusy]
  rfl

/-- What `RESET` leaves known of the system's memory is what was known where no `OUT` buffer stands (R37, R221; log 4). -/
theorem mem_resetState_sysMem {s : State} {c : Host.Cell} :
    c ∈ (resetState s).sysMem.cells ↔ c ∈ s.sysMem.cells ∧ s.outPlaced c.1 = false := by
  simp [resetState, sysAfterReset]

/-- Settles O32: `exec .reset` answers `resetState`, which writes out the registers and the eras, unlists the `OUT` buffers, and
keeps the input. -/
theorem resetClearsTheRegisters : Obligations.ResetClearsTheRegisters := by
  unfold Obligations.ResetClearsTheRegisters
  intro s
  have hin := InputKept.reset s
  have hforgot : ∀ c ∈ (resetState s).sysMem.cells, s.outPlaced c.1 = false := fun _ hc => (mem_resetState_sysMem.1 hc).2
  exact ⟨resetState s, exec_reset s, rfl, rfl, resetState_status s .enc, resetState_status s .dec, rfl, rfl, hforgot,
    rfl, rfl, rfl, rfl, hin.encIn, hin.decIn, fun _ => resetState_sysByte, hin.byteAt, hin.holds, hin.lenW, hin.csrMap,
    hin.bufMap, rfl, rfl, rfl⟩

/-- On the platform `Tests.placed` no entry of an `OUT` buffer stands at the address of an `ENC.IN` entry. -/
theorem placed_out_apart_from_encIn (v : UnitId) (j k : Nat) :
    Tests.placed.sameEntry (outSpace v) j (inSpace .enc) k = false := by
  cases v with
  | enc => exact State.sameEntry_of_overlap (by decide) (by decide) j k
  | dec => exact State.sameEntry_of_overlap (by decide) (by decide) j k

/-- O32 says something of buffers in the system's memory: `RESET` leaves the `M` of `ENC.IN` there. -/
theorem placed_reset_keeps_encIn :
    ∃ t, exec .reset Tests.placed = .next t ∧ t.byteAt .encIn 0 = 0x4D ∧ t.encOut.cells = [] ∧ t.sysMem.era = 1 := by
  obtain ⟨t, hexec, -, -, -, -, hout, -, -, -, -, hera, -, -, -, -, hbyte, -⟩ := resetClearsTheRegisters Tests.placed
  exact ⟨t, hexec, hbyte .enc 0 fun v j => placed_out_apart_from_encIn v j 0, hout, hera⟩

end Sys2Proof.Machine
end
